-- ==== Sys2Proof/Word.lean ====
section
/-! DEFINITION. The words the ports and the wire carry (00_scope.md R8): bytes, byte strings, the unsigned widths and
the signed ones, the latter as their two's-complement patterns (30_encoding.md R54, log entry 12). -/

namespace Sys2Proof

/-- A byte, 0 to 255; bit 0 is the least significant (R8). -/
abbrev Byte := BitVec 8

/-- A byte string: the first byte has index 0 (R8). -/
abbrev Bytes := List Byte

/-- `u16`. -/
abbrev U16 := BitVec 16

/-- `u32`. -/
abbrev U32 := BitVec 32

/-- `i16` as its two's-complement pattern; its signed reading (`signed_16` of R8) is `BitVec.toInt`. -/
abbrev I16 := BitVec 16

/-- `i32` as its two's-complement pattern; its signed reading (`signed_32` of R8) is `BitVec.toInt`. -/
abbrev I32 := BitVec 32

/-- The channel vector `[u16;16]` (10_state.md R15, 41_channel_packer.md R90). -/
abbrev Channels := Vector U16 16

end Sys2Proof
end

