-- ==== Sys2Proof/Config.lean ====
section
/-! DEFINITION. What an implementation fixes: the constants of 00_scope.md R5, and the shape of the type-code map `TC`
of 30_encoding.md R55. The values `TC` and `SYNC_ADDR` take at reset stand in Machine/Params.lean. -/

namespace Sys2Proof

namespace Config

/-- `MAX_FRAME_SIZE` (R5): the greatest total frame length. -/
def maxFrameSize : Nat := 64

/-- `MIN_FRAME_SIZE` (R5): the least frame length the shape check accepts. -/
def minFrameSize : Nat := 4

/-- `CH_MAX` (R5): the greatest legal channel value. -/
def chMax : Nat := 2047

/-- `NUM_CHANNELS` (R5). -/
def numChannels : Nat := 16

/-- `CH_BITS` (R5). -/
def chBits : Nat := 11

/-- `PACKED_LEN` (R5): bytes of the packed channel buffer. -/
def packedLen : Nat := 22

/-- `U24_MAX` (R5): the greatest value a 24-bit field carries. -/
def u24Max : Nat := 0xFFFFFF

/-- `CRC_POLY` (R5): the generator with the x^8 term implicit. -/
def crcPoly : Byte := 0xD5

/-- `CRC_INIT` (R5). `CRC_XOROUT` is 0x00 and neither input nor output is reflected, so no constant stands for them. -/
def crcInit : Byte := 0x00

end Config

/-- The twenty names of the `PacketType` enumeration (30_encoding.md R55). -/
inductive PacketType where
  | gps | vario | batterySensor | baroAlt | airspeed | heartbeat | rpm | temp | voltages | videoTransmitter
  | linkStatistics | rcChannelsPacked | linkStatisticsRx | linkStatisticsTx | attitude | flightMode | deviceInfo
  | configRead | configWrite | radioId
deriving DecidableEq, Repr

/-- The type-code map `TC` (R55, R6): one byte per name. That the twenty are pairwise distinct is
`TypeCodes.distinct` (Machine/Params.lean). -/
structure TypeCodes where
  gps : Byte
  vario : Byte
  batterySensor : Byte
  baroAlt : Byte
  airspeed : Byte
  heartbeat : Byte
  rpm : Byte
  temp : Byte
  voltages : Byte
  videoTransmitter : Byte
  linkStatistics : Byte
  rcChannelsPacked : Byte
  linkStatisticsRx : Byte
  linkStatisticsTx : Byte
  attitude : Byte
  flightMode : Byte
  deviceInfo : Byte
  configRead : Byte
  configWrite : Byte
  radioId : Byte
deriving DecidableEq, Repr

end Sys2Proof
end

