-- ==== Sys2Proof/Machine/Operands.lean ====
section
/-! DEFINITION. The operand forms: fields of a byte string (00_scope.md R8, 30_encoding.md R54) and the packed channel
word (20_memory.md R35, 41_channel_packer.md R91, R93). -/

namespace Sys2Proof.Machine

/-- `be_16` (R8): most significant byte first. -/
def be16 (v : BitVec 16) : Bytes := [v.extractLsb' 8 8, v.extractLsb' 0 8]

/-- The `u24` format of 30_encoding.md R54: bits 23..16, 15..8, 7..0 of a `u32`. That the value fits is tested by
`fitsU24` (Machine/Flags.lean) before. -/
def be24 (v : BitVec 32) : Bytes := [v.extractLsb' 16 8, v.extractLsb' 8 8, v.extractLsb' 0 8]

/-- `be_32` (R8). -/
def be32 (v : BitVec 32) : Bytes :=
  [v.extractLsb' 24 8, v.extractLsb' 16 8, v.extractLsb' 8 8, v.extractLsb' 0 8]

/-- `s[i]` (R8). Every rule reads it at an index it has checked to be below `len(s)`; beyond it this total function
gives 0. -/
def byteAt (s : Bytes) (i : Nat) : Byte := s.getD i 0

/-- `ube_16(s, o)` (R8). Its signed reading is `sbe_16(s, o)`. -/
def ube16 (s : Bytes) (o : Nat) : BitVec 16 := byteAt s o ++ byteAt s (o + 1)

/-- `zext_32(ube_24(s, o))` (R8, 30_encoding.md R54). -/
def ube24 (s : Bytes) (o : Nat) : BitVec 32 :=
  (byteAt s o ++ byteAt s (o + 1) ++ byteAt s (o + 2)).setWidth 32

/-- `ube_32(s, o)` (R8). Its signed reading is `sbe_32(s, o)`. -/
def ube32 (s : Bytes) (o : Nat) : BitVec 32 :=
  byteAt s o ++ byteAt s (o + 1) ++ byteAt s (o + 2) ++ byteAt s (o + 3)

/-- The slice `s[a..b]` (R8): bytes `a` to `b − 1`. -/
def slice (s : Bytes) (a b : Nat) : Bytes := (s.drop a).take (b - a)

/-- `Σ v[i]·2^(w·i)` over the list, the first element lowest. -/
def laneSum (w : Nat) : List Nat → Nat
  | [] => 0
  | v :: vs => v + 2 ^ w * laneSum w vs

/-- `W[w·i + w − 1 : w·i]`: lane `i` of width `w`. -/
def lane (w W i : Nat) : Nat := W / 2 ^ (w * i) % 2 ^ w

/-- The 176-bit word `W = Σ ch[i]·2^(11·i)` of 41_channel_packer.md R91. -/
def channelWord (ch : Channels) : Nat := laneSum Config.chBits (ch.toList.map BitVec.toNat)

/-- The 22 bytes of `W`, byte `k` being its bits 8k+7..8k (41_channel_packer.md R91). -/
def wordBytes (W : Nat) : Bytes := (List.range Config.packedLen).map fun k => BitVec.ofNat 8 (lane 8 W k)

/-- `W = Σ s[k]·2^(8·k)` over the first 22 bytes of `s` (41_channel_packer.md R93). -/
def byteWord (s : Bytes) : Nat := laneSum 8 ((s.take Config.packedLen).map BitVec.toNat)

/-- The sixteen 11-bit lanes of `W`, each zero-extended to 16 bits (41_channel_packer.md R93). -/
def wordChannels (W : Nat) : Channels := Vector.ofFn fun i => BitVec.ofNat 16 (lane Config.chBits W i)

end Sys2Proof.Machine
end

