-- ==== Sys2Proof/Syntax.lean ====
section
/-! DEFINITION. The operand domains and the instructions: `PacketVariant` (10_state.md R19) and `Instr`, one constructor
per row of spec/opcode_table.json. -/

namespace Sys2Proof

/-- `PacketVariant` (10_state.md R19): a closed tagged union, nine handled constructors and `unknown`. Every numeric
field is the raw integer that travels on the wire; signed ones are two's-complement patterns (log entry 12). -/
inductive PacketVariant where
  | attitude (pitch roll yaw : I16)
  | gps (lat lon : I32) (speed heading alt : U16) (sats : Byte)
  | batterySensor (voltage current : U16) (capacity : U32) (remaining : Byte)
  | vario (verticalSpeed : I16)
  | flightMode (mode : Bytes)
  | baroAlt (alt : U16) (verticalSpeed : Byte)
  | airspeed (speed : U16)
  | rpm (sourceId : Byte) (values : List U32)
  | rcChannelsPacked (channels : Channels)
  | unknown (typeCode : Byte)
deriving DecidableEq, Repr

/-- The instructions: the 41 rows of spec/opcode_table.json.
The first ten are the OP rows (30_encoding.md R69), with the whole operand of 10_state.md R18. The next ten are the
ENC_VARIANT rows: `ENC` with its variant's constructor already told apart (R70). The last twenty-one are the BODY rows:
`DEC.BODY` with its type byte already told apart, so the operand is the payload (43_codec_decode.md R131); the default
row `decBodyUnknown` keeps the type byte. `link` says which synchronizer is addressed (log entry 8). -/
inductive Instr where
  -- OP rows
  | crc8 (s : Bytes)
  | chPack (ch : Channels)
  | chUnpack (s : Bytes)
  | enc (address : Byte) (packet : PacketVariant)
  | dec (frame : Bytes)
  | decChk (frame : Bytes)
  | syncPush (link : Nat) (chunk : Bytes)
  | syncReset (link : Nat)
  | decBody (body : Bytes)
  | wrap (address : Byte) (body : Bytes)
  -- ENC_VARIANT rows
  | encAttitude (address : Byte) (pitch roll yaw : I16)
  | encGps (address : Byte) (lat lon : I32) (speed heading alt : U16) (sats : Byte)
  | encBatterySensor (address : Byte) (voltage current : U16) (capacity : U32) (remaining : Byte)
  | encVario (address : Byte) (verticalSpeed : I16)
  | encFlightMode (address : Byte) (mode : Bytes)
  | encBaroAlt (address : Byte) (alt : U16) (verticalSpeed : Byte)
  | encAirspeed (address : Byte) (speed : U16)
  | encRpm (address : Byte) (sourceId : Byte) (values : List U32)
  | encRcChannelsPacked (address : Byte) (channels : Channels)
  | encUnknown (address : Byte) (typeCode : Byte)
  -- BODY rows
  | decBodyAttitude (payload : Bytes)
  | decBodyGps (payload : Bytes)
  | decBodyBatterySensor (payload : Bytes)
  | decBodyVario (payload : Bytes)
  | decBodyFlightMode (payload : Bytes)
  | decBodyBaroAlt (payload : Bytes)
  | decBodyAirspeed (payload : Bytes)
  | decBodyRpm (payload : Bytes)
  | decBodyRcChannelsPacked (payload : Bytes)
  | decBodyHeartbeat (payload : Bytes)
  | decBodyTemp (payload : Bytes)
  | decBodyVoltages (payload : Bytes)
  | decBodyVideoTransmitter (payload : Bytes)
  | decBodyLinkStatistics (payload : Bytes)
  | decBodyLinkStatisticsRx (payload : Bytes)
  | decBodyLinkStatisticsTx (payload : Bytes)
  | decBodyDeviceInfo (payload : Bytes)
  | decBodyConfigRead (payload : Bytes)
  | decBodyConfigWrite (payload : Bytes)
  | decBodyRadioId (payload : Bytes)
  | decBodyUnknown (typeCode : Byte) (payload : Bytes)
deriving DecidableEq, Repr

/-- Why the decoder rejects a request. -/
inductive DecodeError where
  /-- The request has no bytes, so no operation select. -/
  | emptyRequest
  /-- The operation select is one of 0xA to 0xF (30_encoding.md R69, 93_implementation_defined.md U9). -/
  | unassignedSelect (op : BitVec 4)
  /-- The select byte's upper four bits name no form of a request (log entry 1). -/
  | unassignedForm (select : Byte)
  /-- The operand bytes are not an operand of the selected operation. -/
  | malformedOperand (op : BitVec 4)
  /-- An `ENC` operand whose tag is not `is_unknown` and whose code is not one of the nine handled codes
  (30_encoding.md R70). -/
  | notAVariant (typeCode : Byte)
deriving DecidableEq, Repr

end Sys2Proof
end

