-- ==== Sys2Proof/Machine/Params.lean ====
section
/-! DEFINITION. The open parameters of 00_scope.md R6: how the type-code map is read, and the values the parameters have
at reset (log entries 6, 7 and 8). -/

namespace Sys2Proof

/-- The twenty names in the order of the table of 30_encoding.md R55. -/
def PacketType.all : List PacketType :=
  [.gps, .vario, .batterySensor, .baroAlt, .airspeed, .heartbeat, .rpm, .temp, .voltages, .videoTransmitter,
   .linkStatistics, .rcChannelsPacked, .linkStatisticsRx, .linkStatisticsTx, .attitude, .flightMode, .deviceInfo,
   .configRead, .configWrite, .radioId]

/-- `TC_<NAME>`: the code of a name (30_encoding.md R55). -/
def TypeCodes.code (tc : TypeCodes) : PacketType → Byte
  | .gps => tc.gps
  | .vario => tc.vario
  | .batterySensor => tc.batterySensor
  | .baroAlt => tc.baroAlt
  | .airspeed => tc.airspeed
  | .heartbeat => tc.heartbeat
  | .rpm => tc.rpm
  | .temp => tc.temp
  | .voltages => tc.voltages
  | .videoTransmitter => tc.videoTransmitter
  | .linkStatistics => tc.linkStatistics
  | .rcChannelsPacked => tc.rcChannelsPacked
  | .linkStatisticsRx => tc.linkStatisticsRx
  | .linkStatisticsTx => tc.linkStatisticsTx
  | .attitude => tc.attitude
  | .flightMode => tc.flightMode
  | .deviceInfo => tc.deviceInfo
  | .configRead => tc.configRead
  | .configWrite => tc.configWrite
  | .radioId => tc.radioId

/-- The name whose code a type byte is, `none` for an unenumerated byte (30_encoding.md R56). -/
def TypeCodes.lookup (tc : TypeCodes) (t : Byte) : Option PacketType :=
  PacketType.all.find? fun n => tc.code n == t

/-- The twenty codes are pairwise distinct, the constraint R6 and R55 put on `TC`. -/
def TypeCodes.distinct (tc : TypeCodes) : Bool :=
  decide (PacketType.all.map tc.code).Nodup

namespace Config

/-- PRESUMED, unsafe (log entry 7): the default column of 30_encoding.md R55, which the spec marks as general
knowledge of the protocol family. -/
def defaultTypeCodes : TypeCodes where
  gps := 0x02
  vario := 0x07
  batterySensor := 0x08
  baroAlt := 0x09
  airspeed := 0x0A
  heartbeat := 0x0B
  rpm := 0x0C
  temp := 0x0D
  voltages := 0x0E
  videoTransmitter := 0x0F
  linkStatistics := 0x14
  rcChannelsPacked := 0x16
  linkStatisticsRx := 0x1C
  linkStatisticsTx := 0x1D
  attitude := 0x1E
  flightMode := 0x21
  deviceInfo := 0x29
  configRead := 0x2C
  configWrite := 0x2D
  radioId := 0x3A

/-- PRESUMED, unsafe (log entry 6): the sync byte the spec's examples use; R6 offers no default. -/
def defaultSyncAddr : Byte := 0xC8

/-- DESIGN CHOICE, unsafe (log entry 8): how many links there are at reset; R6 leaves `NUM_LINKS` open. -/
def defaultNumLinks : Nat := 1

end Config

end Sys2Proof
end

