-- ==== Sys2Proof/WellFormed.lean ====
section
/-! DEFINITION. Which instructions can be written down under a type-code map: what the types of Syntax.lean do not say
already. -/

namespace Sys2Proof

/-- A link number fits the one byte a request carries it in (log entries 1 and 8). -/
def linkFits (link : Nat) : Bool := decide (link < 256)

/-- The default BODY row stands for a type byte that no other row matches (43_codec_decode.md R142, and the row's
`priority` in spec/opcode_table.json). -/
def unenumerated (tc : TypeCodes) (t : Byte) : Bool := (tc.lookup t).isNone

/-- An instruction that a request can carry. -/
def Instr.wellFormed (tc : TypeCodes) : Instr → Bool
  | .crc8 _ => true
  | .chPack _ => true
  | .chUnpack _ => true
  | .enc _ _ => true
  | .dec _ => true
  | .decChk _ => true
  | .syncPush link _ => linkFits link
  | .syncReset link => linkFits link
  | .decBody _ => true
  | .wrap _ _ => true
  | .encAttitude _ _ _ _ => true
  | .encGps _ _ _ _ _ _ _ => true
  | .encBatterySensor _ _ _ _ _ => true
  | .encVario _ _ => true
  | .encFlightMode _ _ => true
  | .encBaroAlt _ _ _ => true
  | .encAirspeed _ _ => true
  | .encRpm _ _ _ => true
  | .encRcChannelsPacked _ _ => true
  | .encUnknown _ _ => true
  | .decBodyAttitude _ => true
  | .decBodyGps _ => true
  | .decBodyBatterySensor _ => true
  | .decBodyVario _ => true
  | .decBodyFlightMode _ => true
  | .decBodyBaroAlt _ => true
  | .decBodyAirspeed _ => true
  | .decBodyRpm _ => true
  | .decBodyRcChannelsPacked _ => true
  | .decBodyHeartbeat _ => true
  | .decBodyTemp _ => true
  | .decBodyVoltages _ => true
  | .decBodyVideoTransmitter _ => true
  | .decBodyLinkStatistics _ => true
  | .decBodyLinkStatisticsRx _ => true
  | .decBodyLinkStatisticsTx _ => true
  | .decBodyDeviceInfo _ => true
  | .decBodyConfigRead _ => true
  | .decBodyConfigWrite _ => true
  | .decBodyRadioId _ => true
  | .decBodyUnknown t _ => unenumerated tc t

end Sys2Proof
end

