-- ==== Sys2Proof/Decode.lean ====
section
/-! DEFINITION. A request as bytes, decoded and encoded. The select codes are those of 30_encoding.md R69 and the `ENC`
operand carries the tag and code of R70; where the operand bytes lie is the model's own (log entry 1):

* byte 0: the operation select in bits 3..0, the form in bits 7..4. Form 0 is an OP row with its whole operand. Form 1,
  for `ENC` and `DEC.BODY` only, is the ENC_VARIANT or BODY row that the operand's type code selects.
* then the operand, which is the rest of the request: byte strings as they are, `u16` and `u32` most significant byte
  first, `ENC` as address, tag (bit 0 is `is_unknown`), type code, fields. -/

namespace Sys2Proof

open Machine (be16 be32 byteAt ube16 ube32)

/-- The fields of a handled constructor on the request port, in the order of 10_state.md R19. -/
def decodeFields (n : PacketType) (f : Bytes) : Option PacketVariant :=
  match n with
  | .attitude => if f.length = 6 then some (.attitude (ube16 f 0) (ube16 f 2) (ube16 f 4)) else none
  | .gps =>
    if f.length = 15 then
      some (.gps (ube32 f 0) (ube32 f 4) (ube16 f 8) (ube16 f 10) (ube16 f 12) (byteAt f 14))
    else none
  | .batterySensor =>
    if f.length = 9 then some (.batterySensor (ube16 f 0) (ube16 f 2) (ube32 f 4) (byteAt f 8)) else none
  | .vario => if f.length = 2 then some (.vario (ube16 f 0)) else none
  | .flightMode => some (.flightMode f)
  | .baroAlt => if f.length = 3 then some (.baroAlt (ube16 f 0) (byteAt f 2)) else none
  | .airspeed => if f.length = 2 then some (.airspeed (ube16 f 0)) else none
  | .rpm =>
    if f.length % 4 = 1 then
      some (.rpm (byteAt f 0) ((List.range (f.length / 4)).map fun i => ube32 f (1 + 4 * i)))
    else none
  | .rcChannelsPacked =>
    if f.length = 32 then some (.rcChannelsPacked (Vector.ofFn fun i => ube16 f (2 * i.val))) else none
  | .heartbeat => none
  | .temp => none
  | .voltages => none
  | .videoTransmitter => none
  | .linkStatistics => none
  | .linkStatisticsRx => none
  | .linkStatisticsTx => none
  | .deviceInfo => none
  | .configRead => none
  | .configWrite => none
  | .radioId => none

/-- One of the nine types with a layout (30_encoding.md R56 (a)). -/
def PacketType.handled : PacketType → Bool
  | .attitude => true
  | .gps => true
  | .batterySensor => true
  | .vario => true
  | .flightMode => true
  | .baroAlt => true
  | .airspeed => true
  | .rpm => true
  | .rcChannelsPacked => true
  | .heartbeat => false
  | .temp => false
  | .voltages => false
  | .videoTransmitter => false
  | .linkStatistics => false
  | .linkStatisticsRx => false
  | .linkStatisticsTx => false
  | .deviceInfo => false
  | .configRead => false
  | .configWrite => false
  | .radioId => false

/-- The `packet` operand of `ENC` (30_encoding.md R70): the tag byte is `is_unknown`, then the code byte, then the
fields. `Unknown` has no field beside its code. -/
def decodeVariant (tc : TypeCodes) (tag code : Byte) (f : Bytes) : Except DecodeError PacketVariant :=
  if tag = 1 then
    if f = [] then .ok (.unknown code) else .error (.malformedOperand 0x3)
  else if tag = 0 then
    match tc.lookup code with
    | none => .error (.notAVariant code)
    | some n =>
      if n.handled then
        match decodeFields n f with
        | some p => .ok p
        | none => .error (.malformedOperand 0x3)
      else .error (.notAVariant code)
  else .error (.malformedOperand 0x3)

/-- The ENC_VARIANT row of a variant. -/
def encRow (address : Byte) : PacketVariant → Instr
  | .attitude pitch roll yaw => .encAttitude address pitch roll yaw
  | .gps lat lon speed heading alt sats => .encGps address lat lon speed heading alt sats
  | .batterySensor voltage current capacity remaining =>
    .encBatterySensor address voltage current capacity remaining
  | .vario verticalSpeed => .encVario address verticalSpeed
  | .flightMode mode => .encFlightMode address mode
  | .baroAlt alt verticalSpeed => .encBaroAlt address alt verticalSpeed
  | .airspeed speed => .encAirspeed address speed
  | .rpm sourceId values => .encRpm address sourceId values
  | .rcChannelsPacked channels => .encRcChannelsPacked address channels
  | .unknown typeCode => .encUnknown address typeCode

/-- The BODY row a type byte selects (43_codec_decode.md R131, with the eleven named rows of R142 told apart). -/
def bodyRow (tc : TypeCodes) (t : Byte) (payload : Bytes) : Instr :=
  match tc.lookup t with
  | some .attitude => .decBodyAttitude payload
  | some .gps => .decBodyGps payload
  | some .batterySensor => .decBodyBatterySensor payload
  | some .vario => .decBodyVario payload
  | some .flightMode => .decBodyFlightMode payload
  | some .baroAlt => .decBodyBaroAlt payload
  | some .airspeed => .decBodyAirspeed payload
  | some .rpm => .decBodyRpm payload
  | some .rcChannelsPacked => .decBodyRcChannelsPacked payload
  | some .heartbeat => .decBodyHeartbeat payload
  | some .temp => .decBodyTemp payload
  | some .voltages => .decBodyVoltages payload
  | some .videoTransmitter => .decBodyVideoTransmitter payload
  | some .linkStatistics => .decBodyLinkStatistics payload
  | some .linkStatisticsRx => .decBodyLinkStatisticsRx payload
  | some .linkStatisticsTx => .decBodyLinkStatisticsTx payload
  | some .deviceInfo => .decBodyDeviceInfo payload
  | some .configRead => .decBodyConfigRead payload
  | some .configWrite => .decBodyConfigWrite payload
  | some .radioId => .decBodyRadioId payload
  | none => .decBodyUnknown t payload

/-- The address and variant of an `ENC` operand (30_encoding.md R70). -/
def decodeEncOperand (tc : TypeCodes) : Bytes → Except DecodeError (Byte × PacketVariant)
  | address :: tag :: code :: f =>
    match decodeVariant tc tag code f with
    | .ok p => .ok (address, p)
    | .error e => .error e
  | _ => .error (.malformedOperand 0x3)

/-- Form 0: the OP row of a select code (30_encoding.md R69). -/
def decodeOp (tc : TypeCodes) (op : BitVec 4) (operand : Bytes) : Except DecodeError Instr :=
  match op.toNat with
  | 0x0 => .ok (.crc8 operand)
  | 0x1 =>
    if operand.length = 32 then .ok (.chPack (Vector.ofFn fun i => ube16 operand (2 * i.val)))
    else .error (.malformedOperand op)
  | 0x2 => .ok (.chUnpack operand)
  | 0x3 =>
    match decodeEncOperand tc operand with
    | .ok (address, p) => .ok (.enc address p)
    | .error e => .error e
  | 0x4 => .ok (.dec operand)
  | 0x5 => .ok (.decChk operand)
  | 0x6 =>
    match operand with
    | link :: chunk => .ok (.syncPush link.toNat chunk)
    | [] => .error (.malformedOperand op)
  | 0x7 =>
    match operand with
    | [link] => .ok (.syncReset link.toNat)
    | _ => .error (.malformedOperand op)
  | 0x8 => .ok (.decBody operand)
  | 0x9 =>
    match operand with
    | address :: body => .ok (.wrap address body)
    | [] => .error (.malformedOperand op)
  | _ => .error (.unassignedSelect op)

/-- Form 1: the row that the type code in the operand selects, for `ENC` (0x3) and `DEC.BODY` (0x8). -/
def decodeRow (tc : TypeCodes) (select : Byte) (operand : Bytes) : Except DecodeError Instr :=
  match (select.extractLsb' 0 4).toNat with
  | 0x3 =>
    match decodeEncOperand tc operand with
    | .ok (address, p) => .ok (encRow address p)
    | .error e => .error e
  | 0x8 =>
    match operand with
    | t :: payload => .ok (bodyRow tc t payload)
    | [] => .error (.malformedOperand 0x8)
  | _ => .error (.unassignedForm select)

/-- The decoder: total on any bytes, rejecting by name. -/
def decode (tc : TypeCodes) : Bytes → Except DecodeError Instr
  | [] => .error .emptyRequest
  | select :: operand =>
    match (select.extractLsb' 4 4).toNat with
    | 0 => decodeOp tc (select.extractLsb' 0 4) operand
    | 1 => decodeRow tc select operand
    | _ => .error (.unassignedForm select)

/-- The name of a variant's constructor, `none` for `Unknown` (30_encoding.md R70). -/
def PacketVariant.packetType : PacketVariant → Option PacketType
  | .attitude _ _ _ => some .attitude
  | .gps _ _ _ _ _ _ => some .gps
  | .batterySensor _ _ _ _ => some .batterySensor
  | .vario _ => some .vario
  | .flightMode _ => some .flightMode
  | .baroAlt _ _ => some .baroAlt
  | .airspeed _ => some .airspeed
  | .rpm _ _ => some .rpm
  | .rcChannelsPacked _ => some .rcChannelsPacked
  | .unknown _ => none

/-- The code byte of an `ENC` operand (30_encoding.md R70). -/
def PacketVariant.codeByte (tc : TypeCodes) (p : PacketVariant) : Byte :=
  match p with
  | .unknown typeCode => typeCode
  | .attitude _ _ _ => tc.attitude
  | .gps _ _ _ _ _ _ => tc.gps
  | .batterySensor _ _ _ _ => tc.batterySensor
  | .vario _ => tc.vario
  | .flightMode _ => tc.flightMode
  | .baroAlt _ _ => tc.baroAlt
  | .airspeed _ => tc.airspeed
  | .rpm _ _ => tc.rpm
  | .rcChannelsPacked _ => tc.rcChannelsPacked

/-- The `is_unknown` tag of an `ENC` operand (30_encoding.md R70). -/
def PacketVariant.tagByte : PacketVariant → Byte
  | .unknown _ => 1
  | .attitude _ _ _ => 0
  | .gps _ _ _ _ _ _ => 0
  | .batterySensor _ _ _ _ => 0
  | .vario _ => 0
  | .flightMode _ => 0
  | .baroAlt _ _ => 0
  | .airspeed _ => 0
  | .rpm _ _ => 0
  | .rcChannelsPacked _ => 0

/-- The fields of a variant on the request port; `capacity` and RPM values keep all 32 bits there, since a value above
0xFFFFFF is a request that `ENC` answers with RANGE (60_exceptions.md R192). -/
def PacketVariant.fieldBytes : PacketVariant → Bytes
  | .attitude pitch roll yaw => be16 pitch ++ be16 roll ++ be16 yaw
  | .gps lat lon speed heading alt sats =>
    be32 lat ++ be32 lon ++ be16 speed ++ be16 heading ++ be16 alt ++ [sats]
  | .batterySensor voltage current capacity remaining =>
    be16 voltage ++ be16 current ++ be32 capacity ++ [remaining]
  | .vario verticalSpeed => be16 verticalSpeed
  | .flightMode mode => mode
  | .baroAlt alt verticalSpeed => be16 alt ++ [verticalSpeed]
  | .airspeed speed => be16 speed
  | .rpm sourceId values => sourceId :: values.flatMap be32
  | .rcChannelsPacked channels => channels.toList.flatMap be16
  | .unknown _ => []

/-- An `ENC` operand as bytes: address, tag, code, fields. -/
def encOperand (tc : TypeCodes) (address : Byte) (p : PacketVariant) : Bytes :=
  address :: p.tagByte :: p.codeByte tc :: p.fieldBytes

/-- A link number as the byte a request carries; `Instr.wellFormed` says it fits. -/
def linkByte (link : Nat) : Byte := BitVec.ofNat 8 link

/-- The request bytes of an instruction. -/
def encode (tc : TypeCodes) : Instr → Bytes
  | .crc8 s => 0x00 :: s
  | .chPack ch => 0x01 :: ch.toList.flatMap be16
  | .chUnpack s => 0x02 :: s
  | .enc address packet => 0x03 :: encOperand tc address packet
  | .dec frame => 0x04 :: frame
  | .decChk frame => 0x05 :: frame
  | .syncPush link chunk => 0x06 :: linkByte link :: chunk
  | .syncReset link => [0x07, linkByte link]
  | .decBody body => 0x08 :: body
  | .wrap address body => 0x09 :: address :: body
  | .encAttitude address pitch roll yaw => 0x13 :: encOperand tc address (.attitude pitch roll yaw)
  | .encGps address lat lon speed heading alt sats =>
    0x13 :: encOperand tc address (.gps lat lon speed heading alt sats)
  | .encBatterySensor address voltage current capacity remaining =>
    0x13 :: encOperand tc address (.batterySensor voltage current capacity remaining)
  | .encVario address verticalSpeed => 0x13 :: encOperand tc address (.vario verticalSpeed)
  | .encFlightMode address mode => 0x13 :: encOperand tc address (.flightMode mode)
  | .encBaroAlt address alt verticalSpeed => 0x13 :: encOperand tc address (.baroAlt alt verticalSpeed)
  | .encAirspeed address speed => 0x13 :: encOperand tc address (.airspeed speed)
  | .encRpm address sourceId values => 0x13 :: encOperand tc address (.rpm sourceId values)
  | .encRcChannelsPacked address channels => 0x13 :: encOperand tc address (.rcChannelsPacked channels)
  | .encUnknown address typeCode => 0x13 :: encOperand tc address (.unknown typeCode)
  | .decBodyAttitude payload => 0x18 :: tc.attitude :: payload
  | .decBodyGps payload => 0x18 :: tc.gps :: payload
  | .decBodyBatterySensor payload => 0x18 :: tc.batterySensor :: payload
  | .decBodyVario payload => 0x18 :: tc.vario :: payload
  | .decBodyFlightMode payload => 0x18 :: tc.flightMode :: payload
  | .decBodyBaroAlt payload => 0x18 :: tc.baroAlt :: payload
  | .decBodyAirspeed payload => 0x18 :: tc.airspeed :: payload
  | .decBodyRpm payload => 0x18 :: tc.rpm :: payload
  | .decBodyRcChannelsPacked payload => 0x18 :: tc.rcChannelsPacked :: payload
  | .decBodyHeartbeat payload => 0x18 :: tc.heartbeat :: payload
  | .decBodyTemp payload => 0x18 :: tc.temp :: payload
  | .decBodyVoltages payload => 0x18 :: tc.voltages :: payload
  | .decBodyVideoTransmitter payload => 0x18 :: tc.videoTransmitter :: payload
  | .decBodyLinkStatistics payload => 0x18 :: tc.linkStatistics :: payload
  | .decBodyLinkStatisticsRx payload => 0x18 :: tc.linkStatisticsRx :: payload
  | .decBodyLinkStatisticsTx payload => 0x18 :: tc.linkStatisticsTx :: payload
  | .decBodyDeviceInfo payload => 0x18 :: tc.deviceInfo :: payload
  | .decBodyConfigRead payload => 0x18 :: tc.configRead :: payload
  | .decBodyConfigWrite payload => 0x18 :: tc.configWrite :: payload
  | .decBodyRadioId payload => 0x18 :: tc.radioId :: payload
  | .decBodyUnknown typeCode payload => 0x18 :: typeCode :: payload

/-- The operand a table word's request is given: zeros of the length the operation needs. `ENC` is the exception: an
all-zero operand is no request under R70 unless 0x00 is a handled code, so it carries an all-zero Attitude
(log entry 2). -/
def tableOperand (tc : TypeCodes) (op : Nat) : Bytes :=
  match op with
  | 0x0 => []
  | 0x1 => List.replicate 32 0
  | 0x2 => List.replicate 22 0
  | 0x3 => encOperand tc 0 (.attitude 0 0 0)
  | 0x4 => List.replicate 4 0
  | 0x5 => List.replicate 4 0
  | 0x6 => [0]
  | 0x7 => [0]
  | 0x8 => [0]
  | 0x9 => [0, 0]
  | _ => []

/-- The request a word of spec/opcode_table.json stands for. The table numbers bits within a SPACE (operation select, or
type byte) and a word does not say which, so one word can belong to rows of several spaces: an assigned select is read
as the OP row, any other byte as the type byte of a BODY row (log entry 2). The payload is zeros, as many as the longest
minimum payload. Any other number gives a request the decoder rejects. -/
def tableRequest (tc : TypeCodes) (nbits w : Nat) : Bytes :=
  if w < 10 then BitVec.ofNat 8 w :: tableOperand tc w
  else if 8 ≤ nbits ∧ w < 256 then 0x18 :: BitVec.ofNat 8 w :: List.replicate 22 0
  else if w < 16 then [BitVec.ofNat 8 w]
  else []

/-- The instruction the decoder reads from a table word, under the type codes of reset. -/
def decodeTableWord (nbits w : Nat) : Option Instr :=
  match decode Config.defaultTypeCodes (tableRequest Config.defaultTypeCodes nbits w) with
  | .ok i => some i
  | .error _ => none

end Sys2Proof
end

