-- ==== Sys2Proof/Machine/Flags.lean ====
section
/-! DEFINITION. This hardware has no flags and no condition codes (10_state.md R17). What stands in their place are the
tests behind the conditions of 60_exceptions.md R191, each reported with its own operation's result. -/

namespace Sys2Proof.Machine

/-- A value a 24-bit field carries (00_scope.md R5, 60_exceptions.md R192). -/
def fitsU24 (v : U32) : Bool := decide (v.toNat ≤ Config.u24Max)

/-- Every channel is within 0 to 2047 (41_channel_packer.md R90, R91). -/
def channelsFit (ch : Channels) : Bool := ch.toList.all fun c => decide (c.toNat ≤ Config.chMax)

/-- A payload whose frame would exceed 64 bytes (42_codec_encode.md R100, 60_exceptions.md R193). -/
def payloadOversize (payload : Bytes) : Bool := decide (payload.length + 4 > Config.maxFrameSize)

/-- A body whose frame would exceed 64 bytes (42_codec_encode.md R113). -/
def bodyOversize (body : Bytes) : Bool := decide (body.length + 3 > Config.maxFrameSize)

/-- The generic shape check of `DEC` (43_codec_decode.md R130): at least four bytes, and the length byte is two less
than the frame's length, compared as integers. -/
def shapeOk (frame : Bytes) : Bool :=
  decide (Config.minFrameSize ≤ frame.length) && decide ((frame.getD 1 0).toNat = frame.length - 2)

end Sys2Proof.Machine
end

