-- ==== Sys2Proof/Machine/State.lean ====
section
/-! DEFINITION. The state as plain data (10_state.md R10 to R13, R18, R20, R21; 60_exceptions.md R191), the reasons a
step can stop, and the state after reset (70_reset_and_hazards.md R220). -/

namespace Sys2Proof.Machine

/-- No step faults: "No operation traps", "No condition in the core is fatal" (60_exceptions.md R190). So the type has
no constructor. -/
inductive Fault where
deriving DecidableEq, Repr

/-- Why a step has no successor state. Each of these says that the request lies outside what the spec gives a meaning
to (the treatment `refuse` of 93_implementation_defined.md). -/
inductive Refusal where
  /-- Raised by an arm of `exec` whose instruction has no meaning yet; no arm does. Safe: nothing can be proved about
  the instruction. -/
  | notModelled (mnemonic : String)
  /-- Raised by `step` on a request the decoder rejects: an unassigned select (30_encoding.md R69,
  93_implementation_defined.md U9) or an operand that cannot be written down (R70). Safe: the model stops where hardware
  may answer `ok = 0` (log entry 15). -/
  | badRequest (why : DecodeError)
  /-- Raised by `SYNC.PUSH` and `SYNC.RESET` that address a link the block does not have: the spec gives one
  synchronizer per link and no operation without one (60_exceptions.md R208). Safe: the model stops (log entry 8). -/
  | noSuchLink (link : Nat)
deriving DecidableEq, Repr

/-- The conditions of 60_exceptions.md R191 with a code other than 0. -/
inductive Condition where
  | range | oversize | unknownVariant | short | framing | crc
deriving DecidableEq, Repr

/-- `Event` (10_state.md R20): what a synchronizer puts out. -/
inductive Event where
  /-- A frame whose CRC matched; `body` is its `type ‖ payload`. -/
  | valid (body : Bytes)
  /-- A complete candidate frame whose CRC did not match. -/
  | crcError
deriving DecidableEq, Repr

/-- The result of an operation that succeeds (the column `response on success` of 10_state.md R18). -/
inductive Result where
  /-- `CRC8`: a byte. -/
  | checksum (value : Byte)
  /-- `CH.PACK`: 22 bytes. -/
  | packed (bytes : Bytes)
  /-- `CH.UNPACK`: 16 channels. -/
  | channels (ch : Channels)
  /-- `ENC`, `WRAP`: a frame. -/
  | frame (bytes : Bytes)
  /-- `DEC`, `DEC.CHK`, `DEC.BODY`: a variant. -/
  | packet (p : PacketVariant)
  /-- `SYNC.PUSH`: the events of this push, in order. -/
  | events (es : List Event)
  /-- `SYNC.RESET`: no result. -/
  | nothing
deriving DecidableEq, Repr

/-- A response (10_state.md R18): `ok` with a result, or not `ok` with a cause. -/
inductive Response where
  | done (result : Result)
  | failed (cause : Condition)
deriving DecidableEq, Repr

/-- One synchronizer (10_state.md R10): its sync byte, constant for its life (R12), and its accumulator `B` (R11). -/
structure Link where
  syncAddr : Byte
  buf : Bytes
deriving DecidableEq, Repr

/-- The whole state. `links` and `tc` are the spec's (R10, R220); `requests` and `responses` are the model's two sides
of the ports of R18: what the host has presented and the block has not taken, and what the block has answered, both
oldest first (log entries 3 and 5). -/
structure State where
  links : List Link
  tc : TypeCodes
  requests : List Bytes
  responses : List Response
deriving DecidableEq, Repr

/-- A link right after its creation: `B = []` (10_state.md R21). -/
def Link.fresh (syncAddr : Byte) : Link := ⟨syncAddr, []⟩

/-- The machine right after reset (70_reset_and_hazards.md R220): every accumulator empty, `SYNC_ADDR` and `TC` at their
parameter values (log entries 6, 7 and 8), nothing presented and nothing answered. -/
def State.reset : State where
  links := List.replicate Config.defaultNumLinks (Link.fresh Config.defaultSyncAddr)
  tc := Config.defaultTypeCodes
  requests := []
  responses := []

/-- The outcome type of this machine. -/
abbrev Out := Host.Outcome State Fault Refusal

end Sys2Proof.Machine
end

