-- ==== Sys2Proof/Machine/Ops.lean ====
section
/-! DEFINITION. The named operations over state: the accumulator primitives of 20_memory.md R31, the links, and
answering a request, which is all that "taking an exception" means here (60_exceptions.md R190, R201). There is nothing
to return from (R202), so no operation stands beside it. -/

namespace Sys2Proof.Machine

/-! ### The accumulator, the only memory (20_memory.md R30) -/

/-- The accumulator's contents: index 0 is the oldest byte still held (10_state.md R11). A byte string is its own
canonical form (log entry 18). -/
abbrev Memory := Bytes

/-- One byte of `B`: index `i` is valid exactly when `i < len(B)` (R30). An index that is not listed reads as nothing. -/
def Memory.read (B : Memory) (i : Nat) : Option Byte := B[i]?

/-- `B` as address and byte pairs. -/
def Memory.cells (B : Memory) : List Host.Cell := B.zipIdx.map fun x => (x.2, x.1)

/-- The canonical form of address and byte pairs: the addresses are 0, 1, 2, … without a gap. -/
def Memory.cellsWf (cells : List Host.Cell) : Bool := cells.map Prod.fst == List.range cells.length

/-- The form of a memory: its pairs are canonical. -/
def Memory.wf (B : Memory) : Bool := Memory.cellsWf (Memory.cells B)

/-- `B.append(c)` (R31). -/
def Memory.append (B c : Memory) : Memory := B ++ c

/-- `B.find(v)` (R31): the least index of a byte equal to `v`. -/
def Memory.find (B : Memory) (v : Byte) : Option Nat := B.findIdx? fun b => b == v

/-- `B.drop_prefix(n)` (R31); every use has `n ≤ len(B)`. -/
def Memory.dropFirst (B : Memory) (n : Nat) : Memory := B.drop n

/-- `B.clear()` (R31). -/
def Memory.cleared : Memory := []

/-- `MemRead(a, n) = B[a .. a+n]` (R31); every use has `a + n ≤ len(B)`. -/
def Memory.readBytes (B : Memory) (a n : Nat) : Bytes := slice B a (a + n)

/-! ### Links -/

/-- The synchronizer of a link, if the block has that link (60_exceptions.md R208). -/
def State.link? (s : State) (k : Nat) : Option Link := s.links[k]?

/-- The state with link `k`'s accumulator replaced; every other link and every sync byte stays. -/
def State.setBuf (s : State) (k : Nat) (B : Memory) : State :=
  { s with links := s.links.modify k fun l => { l with buf := B } }

/-! ### Responses -/

/-- Give a response: the one effect every operation has beside its own (10_state.md R18). -/
def State.respond (s : State) (r : Response) : State := { s with responses := s.responses ++ [r] }

/-- `raise c` (00_scope.md R8, 60_exceptions.md R190): the operation ends with result `none` and cause `c`; nothing is
saved, nothing jumps, nothing else changes (R201). The one operation all conditions go through. -/
def State.raise (s : State) (c : Condition) : Out := .next (s.respond (.failed c))

/-- End an operation with `some(r)`. -/
def State.finish (s : State) (r : Result) : Out := .next (s.respond (.done r))

/-- End an operation that a function of its operands decides. -/
def State.answer (s : State) : Except Condition Result → Out
  | .ok r => s.finish r
  | .error c => s.raise c

/-- The `ok` bit of a response (10_state.md R18). -/
def Response.ok : Response → Bool
  | .done _ => true
  | .failed _ => false

/-- The 3-bit code of a condition (60_exceptions.md R191). -/
def Condition.code : Condition → BitVec 3
  | .range => 1
  | .oversize => 2
  | .unknownVariant => 3
  | .short => 4
  | .framing => 5
  | .crc => 6

/-- The `cause` code of a response: 0 is `NONE`, success (60_exceptions.md R191). -/
def Response.cause : Response → BitVec 3
  | .done _ => 0
  | .failed c => c.code

end Sys2Proof.Machine
end

