-- ==== Sys2Proof/Machine/Channel.lean ====
section
/-! DEFINITION. Unit U2, the channel bit-packer (41_channel_packer.md): `CH.PACK` (R91) and `CH.UNPACK` (R93). -/

namespace Sys2Proof.Machine

/-- `CH.PACK` (R91) as a function: the whole operation fails when any channel exceeds 2047 (R96). -/
def packChannels (ch : Channels) : Except Condition Bytes :=
  if channelsFit ch then .ok (wordBytes (channelWord ch)) else .error .range

/-- `CH.UNPACK` (R93) as a function: bytes at index 22 and beyond are not read. -/
def unpackChannels (s : Bytes) : Except Condition Channels :=
  if s.length < Config.packedLen then .error .short else .ok (wordChannels (byteWord s))

/-- `CH.PACK` (R91). -/
def execChPack (ch : Channels) (st : State) : Out := st.answer ((packChannels ch).map .packed)

/-- `CH.UNPACK` (R93). -/
def execChUnpack (s : Bytes) (st : State) : Out := st.answer ((unpackChannels s).map .channels)

end Sys2Proof.Machine
end

