-- ==== Sys2Proof/Machine/Crc.lean ====
section
/-! DEFINITION. Unit U1, the CRC-8 generator (40_crc8.md): the byte step R81, the function R82 and the operation
`CRC8`. -/

namespace Sys2Proof.Machine

/-- One shift of the register (R81): the bit leaving position 7 XORs in the polynomial. -/
def crcShift (c : Byte) : Byte := if c.msb then (c <<< 1) ^^^ Config.crcPoly else c <<< 1

/-- The eight shifts of one byte step (R81). -/
def crcShifts (c : Byte) : Byte :=
  crcShift (crcShift (crcShift (crcShift (crcShift (crcShift (crcShift (crcShift c)))))))

/-- `crc8_update(c, b)` (R81). -/
def crcUpdate (c b : Byte) : Byte := crcShifts (c ^^^ b)

/-- `crc8(s)` (R82): the bytes in ascending index order, from `CRC_INIT`, with no final XOR. -/
def crc8 (s : Bytes) : Byte := s.foldl crcUpdate Config.crcInit

/-- `CRC8` (R82): cannot fail, touches no state. -/
def execCrc8 (s : Bytes) (st : State) : Out := st.finish (.checksum (crc8 s))

end Sys2Proof.Machine
end

