-- ==== Sys2Proof/Machine/CodecDecode.lean ====
section
/-! DEFINITION. Unit U3, decode side (43_codec_decode.md): the rules per type R133 to R142, the dispatch R131, `DEC`
(R130), `DEC.CHK` (R132), `DEC.BODY` and its twenty-one BODY rows. A payload longer than its layout decodes as if the
excess were absent (R143): no rule reads beyond its layout. -/

namespace Sys2Proof.Machine

/-- `Attitude` (R133). -/
def decodeAttitude (pl : Bytes) : Except Condition PacketVariant :=
  if pl.length < 6 then .error .framing else .ok (.attitude (ube16 pl 0) (ube16 pl 2) (ube16 pl 4))

/-- `Gps` (R134). -/
def decodeGps (pl : Bytes) : Except Condition PacketVariant :=
  if pl.length < 15 then .error .framing
  else .ok (.gps (ube32 pl 0) (ube32 pl 4) (ube16 pl 8) (ube16 pl 10) (ube16 pl 12) (byteAt pl 14))

/-- `BatterySensor` (R135). -/
def decodeBatterySensor (pl : Bytes) : Except Condition PacketVariant :=
  if pl.length < 8 then .error .framing
  else .ok (.batterySensor (ube16 pl 0) (ube16 pl 2) (ube24 pl 4) (byteAt pl 7))

/-- `Vario` (R136). -/
def decodeVario (pl : Bytes) : Except Condition PacketVariant :=
  if pl.length < 2 then .error .framing else .ok (.vario (ube16 pl 0))

/-- `FlightMode` (R137): the bytes before the first 0x00; without one, FRAMING. -/
def decodeFlightMode (pl : Bytes) : Except Condition PacketVariant :=
  match pl.findIdx? fun b => b == 0x00 with
  | none => .error .framing
  | some z => .ok (.flightMode (slice pl 0 z))

/-- `BaroAlt` (R138). -/
def decodeBaroAlt (pl : Bytes) : Except Condition PacketVariant :=
  if pl.length < 3 then .error .framing else .ok (.baroAlt (ube16 pl 0) (byteAt pl 2))

/-- `Airspeed` (R139). -/
def decodeAirspeed (pl : Bytes) : Except Condition PacketVariant :=
  if pl.length < 2 then .error .framing else .ok (.airspeed (ube16 pl 0))

/-- `Rpm` (R140): the whole groups of three after the source id. -/
def decodeRpm (pl : Bytes) : Except Condition PacketVariant :=
  if pl.length < 1 then .error .framing
  else .ok (.rpm (byteAt pl 0) ((List.range ((pl.length - 1) / 3)).map fun i => ube24 pl (1 + 3 * i)))

/-- `RcChannelsPacked` (R141). A payload too short for `CH.UNPACK` is FRAMING here (60_exceptions.md R195). -/
def decodeRcChannelsPacked (pl : Bytes) : Except Condition PacketVariant :=
  match unpackChannels pl with
  | .ok ch => .ok (.rcChannelsPacked ch)
  | .error _ => .error .framing

/-- Any other type byte (R142): the payload is discarded. -/
def decodeUnknown (t : Byte) : Except Condition PacketVariant := .ok (.unknown t)

/-- The `case t of` of `DEC.BODY` (R131). -/
def decodePayload (tc : TypeCodes) (t : Byte) (pl : Bytes) : Except Condition PacketVariant :=
  if t = tc.attitude then decodeAttitude pl
  else if t = tc.gps then decodeGps pl
  else if t = tc.batterySensor then decodeBatterySensor pl
  else if t = tc.vario then decodeVario pl
  else if t = tc.flightMode then decodeFlightMode pl
  else if t = tc.baroAlt then decodeBaroAlt pl
  else if t = tc.airspeed then decodeAirspeed pl
  else if t = tc.rpm then decodeRpm pl
  else if t = tc.rcChannelsPacked then decodeRcChannelsPacked pl
  else decodeUnknown t

/-- `DEC.BODY` (R131) as a function. -/
def decodeBody (tc : TypeCodes) : Bytes → Except Condition PacketVariant
  | [] => .error .framing
  | t :: pl => decodePayload tc t pl

/-- `frame[2 .. n−1]`, the body of a frame (43_codec_decode.md R130, R145). -/
def frameBody (frame : Bytes) : Bytes := slice frame 2 (frame.length - 1)

/-- `DEC` (R130) as a function: the shape check, then `DEC.BODY`. -/
def decodeFrame (tc : TypeCodes) (frame : Bytes) : Except Condition PacketVariant :=
  if shapeOk frame then decodeBody tc (frameBody frame) else .error .framing

/-- `DEC.CHK` (R132) as a function: the length guard, then the CRC, then `DEC`. -/
def decodeChecked (tc : TypeCodes) (frame : Bytes) : Except Condition PacketVariant :=
  if frame.length < Config.minFrameSize then .error .framing
  else if crc8 (frameBody frame) ≠ byteAt frame (frame.length - 1) then .error .crc
  else decodeFrame tc frame

/-- Answer with a decoded variant or its condition. -/
def State.answerPacket (st : State) (r : Except Condition PacketVariant) : Out := st.answer (r.map .packet)

/-- `DEC` (R130). -/
def execDec (frame : Bytes) (st : State) : Out := st.answerPacket (decodeFrame st.tc frame)

/-- `DEC.CHK` (R132). -/
def execDecChk (frame : Bytes) (st : State) : Out := st.answerPacket (decodeChecked st.tc frame)

/-- `DEC.BODY` (R131). -/
def execDecBody (body : Bytes) (st : State) : Out := st.answerPacket (decodeBody st.tc body)

/-- `DEC.BODY`, type `TC_ATTITUDE` (R133). -/
def execDecBodyAttitude (payload : Bytes) (st : State) : Out := st.answerPacket (decodeAttitude payload)

/-- `DEC.BODY`, type `TC_GPS` (R134). -/
def execDecBodyGps (payload : Bytes) (st : State) : Out := st.answerPacket (decodeGps payload)

/-- `DEC.BODY`, type `TC_BATTERY_SENSOR` (R135). -/
def execDecBodyBatterySensor (payload : Bytes) (st : State) : Out := st.answerPacket (decodeBatterySensor payload)

/-- `DEC.BODY`, type `TC_VARIO` (R136). -/
def execDecBodyVario (payload : Bytes) (st : State) : Out := st.answerPacket (decodeVario payload)

/-- `DEC.BODY`, type `TC_FLIGHT_MODE` (R137). -/
def execDecBodyFlightMode (payload : Bytes) (st : State) : Out := st.answerPacket (decodeFlightMode payload)

/-- `DEC.BODY`, type `TC_BARO_ALT` (R138). -/
def execDecBodyBaroAlt (payload : Bytes) (st : State) : Out := st.answerPacket (decodeBaroAlt payload)

/-- `DEC.BODY`, type `TC_AIRSPEED` (R139). -/
def execDecBodyAirspeed (payload : Bytes) (st : State) : Out := st.answerPacket (decodeAirspeed payload)

/-- `DEC.BODY`, type `TC_RPM` (R140). -/
def execDecBodyRpm (payload : Bytes) (st : State) : Out := st.answerPacket (decodeRpm payload)

/-- `DEC.BODY`, type `TC_RC_CHANNELS_PACKED` (R141). -/
def execDecBodyRcChannelsPacked (payload : Bytes) (st : State) : Out :=
  st.answerPacket (decodeRcChannelsPacked payload)

/-- `DEC.BODY`, type `TC_HEARTBEAT` (R142). -/
def execDecBodyHeartbeat (_payload : Bytes) (st : State) : Out := st.answerPacket (decodeUnknown st.tc.heartbeat)

/-- `DEC.BODY`, type `TC_TEMP` (R142). -/
def execDecBodyTemp (_payload : Bytes) (st : State) : Out := st.answerPacket (decodeUnknown st.tc.temp)

/-- `DEC.BODY`, type `TC_VOLTAGES` (R142). -/
def execDecBodyVoltages (_payload : Bytes) (st : State) : Out := st.answerPacket (decodeUnknown st.tc.voltages)

/-- `DEC.BODY`, type `TC_VIDEO_TRANSMITTER` (R142). -/
def execDecBodyVideoTransmitter (_payload : Bytes) (st : State) : Out :=
  st.answerPacket (decodeUnknown st.tc.videoTransmitter)

/-- `DEC.BODY`, type `TC_LINK_STATISTICS` (R142). -/
def execDecBodyLinkStatistics (_payload : Bytes) (st : State) : Out :=
  st.answerPacket (decodeUnknown st.tc.linkStatistics)

/-- `DEC.BODY`, type `TC_LINK_STATISTICS_RX` (R142). -/
def execDecBodyLinkStatisticsRx (_payload : Bytes) (st : State) : Out :=
  st.answerPacket (decodeUnknown st.tc.linkStatisticsRx)

/-- `DEC.BODY`, type `TC_LINK_STATISTICS_TX` (R142). -/
def execDecBodyLinkStatisticsTx (_payload : Bytes) (st : State) : Out :=
  st.answerPacket (decodeUnknown st.tc.linkStatisticsTx)

/-- `DEC.BODY`, type `TC_DEVICE_INFO` (R142). -/
def execDecBodyDeviceInfo (_payload : Bytes) (st : State) : Out := st.answerPacket (decodeUnknown st.tc.deviceInfo)

/-- `DEC.BODY`, type `TC_CONFIG_READ` (R142). -/
def execDecBodyConfigRead (_payload : Bytes) (st : State) : Out := st.answerPacket (decodeUnknown st.tc.configRead)

/-- `DEC.BODY`, type `TC_CONFIG_WRITE` (R142). -/
def execDecBodyConfigWrite (_payload : Bytes) (st : State) : Out := st.answerPacket (decodeUnknown st.tc.configWrite)

/-- `DEC.BODY`, type `TC_RADIO_ID` (R142). -/
def execDecBodyRadioId (_payload : Bytes) (st : State) : Out := st.answerPacket (decodeUnknown st.tc.radioId)

/-- `DEC.BODY`, any type byte no other row matches (R142); `Instr.wellFormed` says it is one. -/
def execDecBodyUnknown (typeCode : Byte) (_payload : Bytes) (st : State) : Out :=
  st.answerPacket (decodeUnknown typeCode)

end Sys2Proof.Machine
end

