-- ==== Sys2Proof/Machine/CodecEncode.lean ====
section
/-! DEFINITION. Unit U3, encode side (42_codec_encode.md): the payloads R103 to R111, the common procedure R100 to R102,
`ENC` with its ten ENC_VARIANT rows, and `WRAP` (R113). -/

namespace Sys2Proof.Machine

/-- The last lines of `ENC` (R100, R102): the size test, then address, length byte, body and CRC. -/
def sealFrame (address t : Byte) (payload : Bytes) : Except Condition Bytes :=
  if payloadOversize payload then .error .oversize
  else .ok (address :: BitVec.ofNat 8 (payload.length + 2) :: (t :: payload) ++ [crc8 (t :: payload)])

/-- The payload of `Attitude` (R103). -/
def payloadAttitude (pitch roll yaw : I16) : Except Condition Bytes := .ok (be16 pitch ++ be16 roll ++ be16 yaw)

/-- The payload of `Gps` (R104). -/
def payloadGps (lat lon : I32) (speed heading alt : U16) (sats : Byte) : Except Condition Bytes :=
  .ok (be32 lat ++ be32 lon ++ be16 speed ++ be16 heading ++ be16 alt ++ [sats])

/-- The payload of `BatterySensor` (R105). -/
def payloadBatterySensor (voltage current : U16) (capacity : U32) (remaining : Byte) : Except Condition Bytes :=
  if fitsU24 capacity then .ok (be16 voltage ++ be16 current ++ be24 capacity ++ [remaining]) else .error .range

/-- The payload of `Vario` (R106). -/
def payloadVario (verticalSpeed : I16) : Except Condition Bytes := .ok (be16 verticalSpeed)

/-- The payload of `FlightMode` (R107): the bytes verbatim and one terminator. -/
def payloadFlightMode (mode : Bytes) : Except Condition Bytes := .ok (mode ++ [0x00])

/-- The payload of `BaroAlt` (R108): the raw altitude word. -/
def payloadBaroAlt (alt : U16) (verticalSpeed : Byte) : Except Condition Bytes := .ok (be16 alt ++ [verticalSpeed])

/-- The payload of `Airspeed` (R109). -/
def payloadAirspeed (speed : U16) : Except Condition Bytes := .ok (be16 speed)

/-- The payload of `Rpm` (R110): one bad value fails the whole packet. -/
def payloadRpm (sourceId : Byte) (values : List U32) : Except Condition Bytes :=
  if values.all fitsU24 then .ok (sourceId :: values.flatMap be24) else .error .range

/-- The payload of `RcChannelsPacked` (R111): what `CH.PACK` gives, RANGE where it raises RANGE. -/
def payloadRcChannelsPacked (channels : Channels) : Except Condition Bytes := packChannels channels

/-- A payload that may fail, sealed into a frame (R100): `payload_of` first, then the size test, so RANGE goes before
OVERSIZE (60_exceptions.md R200). -/
def encodeWith (address t : Byte) (payload : Except Condition Bytes) : Except Condition Result :=
  match payload with
  | .ok pl => (sealFrame address t pl).map .frame
  | .error c => .error c

/-- `ENC` as a function (R100): dispatch on the constructor. -/
def encodePacket (tc : TypeCodes) (address : Byte) : PacketVariant → Except Condition Result
  | .attitude pitch roll yaw => encodeWith address tc.attitude (payloadAttitude pitch roll yaw)
  | .gps lat lon speed heading alt sats => encodeWith address tc.gps (payloadGps lat lon speed heading alt sats)
  | .batterySensor voltage current capacity remaining =>
    encodeWith address tc.batterySensor (payloadBatterySensor voltage current capacity remaining)
  | .vario verticalSpeed => encodeWith address tc.vario (payloadVario verticalSpeed)
  | .flightMode mode => encodeWith address tc.flightMode (payloadFlightMode mode)
  | .baroAlt alt verticalSpeed => encodeWith address tc.baroAlt (payloadBaroAlt alt verticalSpeed)
  | .airspeed speed => encodeWith address tc.airspeed (payloadAirspeed speed)
  | .rpm sourceId values => encodeWith address tc.rpm (payloadRpm sourceId values)
  | .rcChannelsPacked channels => encodeWith address tc.rcChannelsPacked (payloadRcChannelsPacked channels)
  | .unknown _ => .error .unknownVariant

/-- `ENC` (R100). -/
def execEnc (address : Byte) (packet : PacketVariant) (st : State) : Out := st.answer (encodePacket st.tc address packet)

/-- `ENC` of `Attitude` (R103). -/
def execEncAttitude (address : Byte) (pitch roll yaw : I16) (st : State) : Out :=
  st.answer (encodeWith address st.tc.attitude (payloadAttitude pitch roll yaw))

/-- `ENC` of `Gps` (R104). -/
def execEncGps (address : Byte) (lat lon : I32) (speed heading alt : U16) (sats : Byte) (st : State) : Out :=
  st.answer (encodeWith address st.tc.gps (payloadGps lat lon speed heading alt sats))

/-- `ENC` of `BatterySensor` (R105). -/
def execEncBatterySensor (address : Byte) (voltage current : U16) (capacity : U32) (remaining : Byte) (st : State) :
    Out :=
  st.answer (encodeWith address st.tc.batterySensor (payloadBatterySensor voltage current capacity remaining))

/-- `ENC` of `Vario` (R106). -/
def execEncVario (address : Byte) (verticalSpeed : I16) (st : State) : Out :=
  st.answer (encodeWith address st.tc.vario (payloadVario verticalSpeed))

/-- `ENC` of `FlightMode` (R107). -/
def execEncFlightMode (address : Byte) (mode : Bytes) (st : State) : Out :=
  st.answer (encodeWith address st.tc.flightMode (payloadFlightMode mode))

/-- `ENC` of `BaroAlt` (R108). -/
def execEncBaroAlt (address : Byte) (alt : U16) (verticalSpeed : Byte) (st : State) : Out :=
  st.answer (encodeWith address st.tc.baroAlt (payloadBaroAlt alt verticalSpeed))

/-- `ENC` of `Airspeed` (R109). -/
def execEncAirspeed (address : Byte) (speed : U16) (st : State) : Out :=
  st.answer (encodeWith address st.tc.airspeed (payloadAirspeed speed))

/-- `ENC` of `Rpm` (R110). -/
def execEncRpm (address sourceId : Byte) (values : List U32) (st : State) : Out :=
  st.answer (encodeWith address st.tc.rpm (payloadRpm sourceId values))

/-- `ENC` of `RcChannelsPacked` (R111). -/
def execEncRcChannelsPacked (address : Byte) (channels : Channels) (st : State) : Out :=
  st.answer (encodeWith address st.tc.rcChannelsPacked (payloadRcChannelsPacked channels))

/-- `ENC` of `Unknown` (R112): fails whatever the address and the type code. -/
def execEncUnknown (_address _typeCode : Byte) (st : State) : Out := st.raise .unknownVariant

/-- `WRAP` (R113) as a function. -/
def wrapBody (address : Byte) (body : Bytes) : Except Condition Bytes :=
  if body.length < 1 then .error .short
  else if bodyOversize body then .error .oversize
  else .ok (address :: BitVec.ofNat 8 (body.length + 1) :: body ++ [crc8 body])

/-- `WRAP` (R113). -/
def execWrap (address : Byte) (body : Bytes) (st : State) : Out := st.answer ((wrapBody address body).map .frame)

end Sys2Proof.Machine
end

