-- ==== Sys2Proof/Machine/Sync.lean ====
section
/-! DEFINITION. Unit U4, the frame synchronizer (44_frame_sync.md): one pass of steps a to g (R162 to R169), the loop
(R170), `SYNC.PUSH` (R160) and `SYNC.RESET` (R174). -/

namespace Sys2Proof.Machine

/-- How one pass over steps a to g ends (R170): at a stop, with what `B` then holds; or at a back-edge to step a, with
the event it emitted, if any. -/
inductive Pass where
  | stop (B : Memory)
  | again (emitted : Option Event) (B : Memory)
deriving DecidableEq, Repr

/-- Step g (R169) on a complete candidate of `total` bytes at index 0. -/
def candidateEvent (B : Memory) (total : Nat) : Event :=
  let body := Memory.readBytes B 2 (total - 3)
  if crc8 body = byteAt B (total - 1) then .valid body else .crcError

/-- Steps c to g (R164 to R169) on a buffer that starts with the sync byte. The length test of step e covers R166
(oversize) and R167 (undersize, log entry 10). -/
def scanCandidate (B : Memory) : Pass :=
  if B.length < 2 then .stop B
  else
    let total := (byteAt B 1).toNat + 2
    if total > Config.maxFrameSize ∨ (byteAt B 1).toNat < 2 then .again none (B.dropFirst 1)
    else if B.length < total then .stop B
    else .again (some (candidateEvent B total)) (B.dropFirst total)

/-- One pass over steps a to g: step a clears `B` entirely when it holds no sync byte (R162, R176), step b drops the
bytes before it (R163). -/
def scanPass (sync : Byte) (B : Memory) : Pass :=
  match B.find sync with
  | none => .stop Memory.cleared
  | some o => scanCandidate (B.dropFirst o)

/-- The loop (R170), for at most `fuel` passes. `pushBytes` gives it `len(B) + 1`, which R170 says is enough, since every
back-edge shortens `B`. -/
def scan (sync : Byte) : Nat → Memory → Memory × List Event
  | 0, B => (B, [])
  | fuel + 1, B =>
    match scanPass sync B with
    | .stop B' => (B', [])
    | .again emitted B' =>
      let rest := scan sync fuel B'
      (rest.1, emitted.toList ++ rest.2)

/-- `SYNC.PUSH` on one accumulator (R160): append (R161), then scan; the new accumulator and the events in order. -/
def pushBytes (sync : Byte) (B chunk : Memory) : Memory × List Event :=
  let B' := B.append chunk
  scan sync (B'.length + 1) B'

/-- `SYNC.PUSH` (R160). -/
def execSyncPush (link : Nat) (chunk : Bytes) (st : State) : Out :=
  match st.link? link with
  | none => .refused (.noSuchLink link)
  | some l =>
    let r := pushBytes l.syncAddr l.buf chunk
    (st.setBuf link r.1).finish (.events r.2)

/-- `SYNC.RESET` (R174). -/
def execSyncReset (link : Nat) (st : State) : Out :=
  match st.link? link with
  | none => .refused (.noSuchLink link)
  | some _ => (st.setBuf link Memory.cleared).finish .nothing

end Sys2Proof.Machine
end

