-- ==== Sys2Proof/Machine/Dispatch.lean ====
section
/-! DEFINITION. One arm per instruction, each one direct call of its meaning. -/

namespace Sys2Proof.Machine

def exec (i : Instr) (s : State) : Host.Outcome State Fault Refusal :=
  match i with
  | .crc8 s0 => Sys2Proof.Machine.execCrc8 s0 s
  | .chPack ch => Sys2Proof.Machine.execChPack ch s
  | .chUnpack s0 => Sys2Proof.Machine.execChUnpack s0 s
  | .enc address packet => Sys2Proof.Machine.execEnc address packet s
  | .dec frame => Sys2Proof.Machine.execDec frame s
  | .decChk frame => Sys2Proof.Machine.execDecChk frame s
  | .syncPush link chunk => Sys2Proof.Machine.execSyncPush link chunk s
  | .syncReset link => Sys2Proof.Machine.execSyncReset link s
  | .decBody body => Sys2Proof.Machine.execDecBody body s
  | .wrap address body => Sys2Proof.Machine.execWrap address body s
  | .encAttitude address pitch roll yaw => Sys2Proof.Machine.execEncAttitude address pitch roll yaw s
  | .encGps address lat lon speed heading alt sats => Sys2Proof.Machine.execEncGps address lat lon speed heading alt sats s
  | .encBatterySensor address voltage current capacity remaining => Sys2Proof.Machine.execEncBatterySensor address voltage current capacity remaining s
  | .encVario address verticalSpeed => Sys2Proof.Machine.execEncVario address verticalSpeed s
  | .encFlightMode address mode => Sys2Proof.Machine.execEncFlightMode address mode s
  | .encBaroAlt address alt verticalSpeed => Sys2Proof.Machine.execEncBaroAlt address alt verticalSpeed s
  | .encAirspeed address speed => Sys2Proof.Machine.execEncAirspeed address speed s
  | .encRpm address sourceId values => Sys2Proof.Machine.execEncRpm address sourceId values s
  | .encRcChannelsPacked address channels => Sys2Proof.Machine.execEncRcChannelsPacked address channels s
  | .encUnknown address typeCode => Sys2Proof.Machine.execEncUnknown address typeCode s
  | .decBodyAttitude payload => Sys2Proof.Machine.execDecBodyAttitude payload s
  | .decBodyGps payload => Sys2Proof.Machine.execDecBodyGps payload s
  | .decBodyBatterySensor payload => Sys2Proof.Machine.execDecBodyBatterySensor payload s
  | .decBodyVario payload => Sys2Proof.Machine.execDecBodyVario payload s
  | .decBodyFlightMode payload => Sys2Proof.Machine.execDecBodyFlightMode payload s
  | .decBodyBaroAlt payload => Sys2Proof.Machine.execDecBodyBaroAlt payload s
  | .decBodyAirspeed payload => Sys2Proof.Machine.execDecBodyAirspeed payload s
  | .decBodyRpm payload => Sys2Proof.Machine.execDecBodyRpm payload s
  | .decBodyRcChannelsPacked payload => Sys2Proof.Machine.execDecBodyRcChannelsPacked payload s
  | .decBodyHeartbeat payload => Sys2Proof.Machine.execDecBodyHeartbeat payload s
  | .decBodyTemp payload => Sys2Proof.Machine.execDecBodyTemp payload s
  | .decBodyVoltages payload => Sys2Proof.Machine.execDecBodyVoltages payload s
  | .decBodyVideoTransmitter payload => Sys2Proof.Machine.execDecBodyVideoTransmitter payload s
  | .decBodyLinkStatistics payload => Sys2Proof.Machine.execDecBodyLinkStatistics payload s
  | .decBodyLinkStatisticsRx payload => Sys2Proof.Machine.execDecBodyLinkStatisticsRx payload s
  | .decBodyLinkStatisticsTx payload => Sys2Proof.Machine.execDecBodyLinkStatisticsTx payload s
  | .decBodyDeviceInfo payload => Sys2Proof.Machine.execDecBodyDeviceInfo payload s
  | .decBodyConfigRead payload => Sys2Proof.Machine.execDecBodyConfigRead payload s
  | .decBodyConfigWrite payload => Sys2Proof.Machine.execDecBodyConfigWrite payload s
  | .decBodyRadioId payload => Sys2Proof.Machine.execDecBodyRadioId payload s
  | .decBodyUnknown typeCode payload => Sys2Proof.Machine.execDecBodyUnknown typeCode payload s

end Sys2Proof.Machine
end

