-- ==== Sys2Proof/Machine/Step.lean ====
section
/-! DEFINITION. One step of the machine: take the oldest request of the ports (10_state.md R18; log entries 3 and 4),
decode it and run it. -/

namespace Sys2Proof.Machine

/-- One step. Nothing pending: nothing happens (10_state.md R16: the host decides what runs next; log entry 4). A
request the decoder rejects is refused by name (30_encoding.md R69). Otherwise the request is taken and run; operations
are atomic and one at a time (20_memory.md R38). -/
def step (s : State) : Host.Outcome State Fault Refusal :=
  match s.requests with
  | [] => .next s
  | r :: rest =>
    match decode s.tc r with
    | .error e => .refused (.badRequest e)
    | .ok i => exec i { s with requests := rest }

/-- The state in which the host has presented the request of a table word before any other (log entry 3). -/
def State.withFetchWord (s : State) (nbits w : Nat) : State :=
  { s with requests := tableRequest s.tc nbits w :: s.requests }

end Sys2Proof.Machine
end

