-- ==== Sys2Proof/Safety.lean ====
section
/-! DEFINITION. What the claims call a good state and a good operand: the at-rest invariant of 10_state.md
R13, the failures of `ENC` as 42_codec_encode.md R101 lists them, the operands of the round trip of 43_codec_decode.md
R147, and the conditions each operation may raise (60_exceptions.md R191). -/

namespace Sys2Proof

open Machine

namespace Machine

/-- The three at-rest shapes of 10_state.md R13: empty; the lone sync byte; a sync byte, a length byte from 2 to 62 and
fewer bytes than it declares. They exclude each other by their lengths. The bound 2 rests on log entry 10. -/
def Link.atRest (l : Link) : Bool :=
  match l.buf with
  | [] => true
  | [a] => a == l.syncAddr
  | a :: n :: rest =>
    a == l.syncAddr && decide (2 ≤ n.toNat) && decide (n.toNat ≤ 62) && decide (rest.length < n.toNat)

/-- The invariant of a run: the type codes are pairwise distinct (30_encoding.md R55) and every link is at rest
(10_state.md R13). -/
def State.Inv (s : State) : Prop := s.tc.distinct = true ∧ ∀ l ∈ s.links, l.atRest = true

end Machine

/-- The link an instruction addresses, if it is one of the synchronizer's (10_state.md R18, column `state touched`). -/
def Instr.linkOf : Instr → Option Nat
  | .crc8 _ => none
  | .chPack _ => none
  | .chUnpack _ => none
  | .enc _ _ => none
  | .dec _ => none
  | .decChk _ => none
  | .syncPush link _ => some link
  | .syncReset link => some link
  | .decBody _ => none
  | .wrap _ _ => none
  | .encAttitude _ _ _ _ => none
  | .encGps _ _ _ _ _ _ _ => none
  | .encBatterySensor _ _ _ _ _ => none
  | .encVario _ _ => none
  | .encFlightMode _ _ => none
  | .encBaroAlt _ _ _ => none
  | .encAirspeed _ _ => none
  | .encRpm _ _ _ => none
  | .encRcChannelsPacked _ _ => none
  | .encUnknown _ _ => none
  | .decBodyAttitude _ => none
  | .decBodyGps _ => none
  | .decBodyBatterySensor _ => none
  | .decBodyVario _ => none
  | .decBodyFlightMode _ => none
  | .decBodyBaroAlt _ => none
  | .decBodyAirspeed _ => none
  | .decBodyRpm _ => none
  | .decBodyRcChannelsPacked _ => none
  | .decBodyHeartbeat _ => none
  | .decBodyTemp _ => none
  | .decBodyVoltages _ => none
  | .decBodyVideoTransmitter _ => none
  | .decBodyLinkStatistics _ => none
  | .decBodyLinkStatisticsRx _ => none
  | .decBodyLinkStatisticsTx _ => none
  | .decBodyDeviceInfo _ => none
  | .decBodyConfigRead _ => none
  | .decBodyConfigWrite _ => none
  | .decBodyRadioId _ => none
  | .decBodyUnknown _ _ => none

/-- Why `ENC` fails on a variant, `none` where it succeeds: the closed list of 42_codec_encode.md R101 in the priority
of 60_exceptions.md R200. -/
def PacketVariant.encFailure : PacketVariant → Option Condition
  | .unknown _ => some .unknownVariant
  | .batterySensor _ _ capacity _ => if 0xFFFFFF < capacity.toNat then some .range else none
  | .rpm _ values =>
    if ∃ v ∈ values, 0xFFFFFF < v.toNat then some .range
    else if 19 < values.length then some .oversize
    else none
  | .rcChannelsPacked channels => if ∃ c ∈ channels.toList, 2047 < c.toNat then some .range else none
  | .flightMode mode => if 59 < mode.length then some .oversize else none
  | .attitude _ _ _ => none
  | .gps _ _ _ _ _ _ => none
  | .vario _ => none
  | .baroAlt _ _ => none
  | .airspeed _ => none

/-- The variants of the round trip (43_codec_decode.md R147): in range, and a `mode` without 0x00. -/
def PacketVariant.roundTrips (p : PacketVariant) : Prop :=
  p.encFailure = none ∧ ∀ mode, p = .flightMode mode → 0x00 ∉ mode

/-- The conditions an instruction may raise: the columns of 10_state.md R18 and 60_exceptions.md R191 for the OP rows,
42_codec_encode.md R101 for the ENC_VARIANT rows, 43_codec_decode.md R133 to R142 for the BODY rows. -/
def Instr.mayRaise : Instr → List Condition
  | .crc8 _ => []
  | .chPack _ => [.range]
  | .chUnpack _ => [.short]
  | .enc _ _ => [.unknownVariant, .range, .oversize]
  | .dec _ => [.framing]
  | .decChk _ => [.framing, .crc]
  | .syncPush _ _ => []
  | .syncReset _ => []
  | .decBody _ => [.framing]
  | .wrap _ _ => [.short, .oversize]
  | .encAttitude _ _ _ _ => []
  | .encGps _ _ _ _ _ _ _ => []
  | .encBatterySensor _ _ _ _ _ => [.range]
  | .encVario _ _ => []
  | .encFlightMode _ _ => [.oversize]
  | .encBaroAlt _ _ _ => []
  | .encAirspeed _ _ => []
  | .encRpm _ _ _ => [.range, .oversize]
  | .encRcChannelsPacked _ _ => [.range]
  | .encUnknown _ _ => [.unknownVariant]
  | .decBodyAttitude _ => [.framing]
  | .decBodyGps _ => [.framing]
  | .decBodyBatterySensor _ => [.framing]
  | .decBodyVario _ => [.framing]
  | .decBodyFlightMode _ => [.framing]
  | .decBodyBaroAlt _ => [.framing]
  | .decBodyAirspeed _ => [.framing]
  | .decBodyRpm _ => [.framing]
  | .decBodyRcChannelsPacked _ => [.framing]
  | .decBodyHeartbeat _ => []
  | .decBodyTemp _ => []
  | .decBodyVoltages _ => []
  | .decBodyVideoTransmitter _ => []
  | .decBodyLinkStatistics _ => []
  | .decBodyLinkStatisticsRx _ => []
  | .decBodyLinkStatisticsTx _ => []
  | .decBodyDeviceInfo _ => []
  | .decBodyConfigRead _ => []
  | .decBodyConfigWrite _ => []
  | .decBodyRadioId _ => []
  | .decBodyUnknown _ _ => []

end Sys2Proof
end

