-- ==== Sys2Proof/Certificates/Slice0/Obligations.lean ====
section
/-! DEFINITION. The statements for the provers, with the few notions they are stated in: an instruction's answer, bytes
of a number, frames, the scan of 44_frame_sync.md as a relation. -/

open Sys2Proof Sys2Proof.Machine

namespace Sys2Proof.Claims

/-- `i` runs in `s` and answers `r`, and that response is the ONE thing that changes: every link (accumulator and sync
byte), the type codes and the pending requests stay as they are. -/
abbrev Answers (i : Instr) (s : State) (r : Response) : Prop :=
  exec i s = .next { s with responses := s.responses ++ [r] }

/-- The conclusion of a successful encode: the answer is the frame `f`. -/
abbrev AnswersFrame (i : Instr) (s : State) (f : Bytes) : Prop := Answers i s (.done (.frame f))

/-- The conclusion of a successful decode: the answer is the variant `p`. -/
abbrev AnswersPacket (i : Instr) (s : State) (p : PacketVariant) : Prop := Answers i s (.done (.packet p))

/-- Byte `k` of a natural number, byte 0 the least significant. -/
def byteOf (n k : Nat) : Byte := BitVec.ofNat 8 (n / 256 ^ k)

/-- `be_16` of a number (00_scope.md R8). -/
def bytes2 (n : Nat) : Bytes := [byteOf n 1, byteOf n 0]

/-- Three bytes of a number, most significant first (the `u24` format of 30_encoding.md R54). -/
def bytes3 (n : Nat) : Bytes := [byteOf n 2, byteOf n 1, byteOf n 0]

/-- `be_32` of a number (00_scope.md R8). -/
def bytes4 (n : Nat) : Bytes := [byteOf n 3, byteOf n 2, byteOf n 1, byteOf n 0]

/-- `unsigned_N` of a signed number (00_scope.md R8). -/
def unsignedOf (w : Nat) (z : Int) : Nat := if 0 ≤ z then z.toNat else (z + 2 ^ w).toNat

/-- `signed_N` of an unsigned number (00_scope.md R8). -/
def signedOf (w u : Nat) : Int := if u < 2 ^ (w - 1) then (u : Int) else (u : Int) - 2 ^ w

/-- The number two bytes stand for, most significant first. -/
def num2 (a b : Byte) : Nat := a.toNat * 256 + b.toNat

/-- The number three bytes stand for. -/
def num3 (a b c : Byte) : Nat := a.toNat * 65536 + b.toNat * 256 + c.toNat

/-- The number four bytes stand for. -/
def num4 (a b c d : Byte) : Nat := a.toNat * 16777216 + b.toNat * 65536 + c.toNat * 256 + d.toNat

/-- The frame of a body (30_encoding.md R50 to R53): address, length byte, body, CRC of the body. -/
def frameOf (address : Byte) (body : Bytes) : Bytes :=
  address :: BitVec.ofNat 8 (body.length + 1) :: body ++ [crc8 body]

/-- The body of a frame: all but its first two bytes and its last. -/
def bodyOf (frame : Bytes) : Bytes := (frame.drop 2).dropLast

/-- Bit `k` of a byte string (20_memory.md R35): bit `k mod 8` of byte `k div 8`. -/
def streamBit (s : Bytes) (k : Nat) : Bool := (s.getD (k / 8) 0).getLsbD (k % 8)

/-- Every channel is at most 2047 (41_channel_packer.md R90). -/
def InRange (ch : Channels) : Prop := ∀ i : Fin 16, ch[i].toNat ≤ 2047

/-- A message as one number, its first byte the most significant. -/
def messageNumber (s : Bytes) : Nat := s.foldl (fun m b => m * 256 + b.toNat) 0

/-- The sum over GF(2) of copies of the generator x^8+x^7+x^6+x^4+x^2+1 (40_crc8.md R80), shifted by these amounts: a
multiple of the generator. -/
def generatorMultiple (shifts : List Nat) : Nat := shifts.foldr (fun k acc => (0x1D5 <<< k) ^^^ acc) 0

/-- A payload that the rule of its type (43_codec_decode.md R133 to R142) decodes: long enough, and for FlightMode with a
0x00 in it. That bytes beyond a layout, and Rpm's empty list and remainder, are admitted is the spec's decisions D15, D16
and D18 (log entry 16). -/
def PayloadFits : PacketType → Bytes → Prop
  | .attitude, pl => 6 ≤ pl.length
  | .gps, pl => 15 ≤ pl.length
  | .batterySensor, pl => 8 ≤ pl.length
  | .vario, pl => 2 ≤ pl.length
  | .flightMode, pl => 0x00 ∈ pl
  | .baroAlt, pl => 3 ≤ pl.length
  | .airspeed, pl => 2 ≤ pl.length
  | .rpm, pl => 1 ≤ pl.length
  | .rcChannelsPacked, pl => 22 ≤ pl.length
  | _, _ => True

/-- The table of 40_crc8.md R83. -/
def crcTable : Bytes :=
  [0x00, 0xD5, 0x7F, 0xAA, 0xFE, 0x2B, 0x81, 0x54, 0x29, 0xFC, 0x56, 0x83, 0xD7, 0x02, 0xA8, 0x7D] ++
  [0x52, 0x87, 0x2D, 0xF8, 0xAC, 0x79, 0xD3, 0x06, 0x7B, 0xAE, 0x04, 0xD1, 0x85, 0x50, 0xFA, 0x2F] ++
  [0xA4, 0x71, 0xDB, 0x0E, 0x5A, 0x8F, 0x25, 0xF0, 0x8D, 0x58, 0xF2, 0x27, 0x73, 0xA6, 0x0C, 0xD9] ++
  [0xF6, 0x23, 0x89, 0x5C, 0x08, 0xDD, 0x77, 0xA2, 0xDF, 0x0A, 0xA0, 0x75, 0x21, 0xF4, 0x5E, 0x8B] ++
  [0x9D, 0x48, 0xE2, 0x37, 0x63, 0xB6, 0x1C, 0xC9, 0xB4, 0x61, 0xCB, 0x1E, 0x4A, 0x9F, 0x35, 0xE0] ++
  [0xCF, 0x1A, 0xB0, 0x65, 0x31, 0xE4, 0x4E, 0x9B, 0xE6, 0x33, 0x99, 0x4C, 0x18, 0xCD, 0x67, 0xB2] ++
  [0x39, 0xEC, 0x46, 0x93, 0xC7, 0x12, 0xB8, 0x6D, 0x10, 0xC5, 0x6F, 0xBA, 0xEE, 0x3B, 0x91, 0x44] ++
  [0x6B, 0xBE, 0x14, 0xC1, 0x95, 0x40, 0xEA, 0x3F, 0x42, 0x97, 0x3D, 0xE8, 0xBC, 0x69, 0xC3, 0x16] ++
  [0xEF, 0x3A, 0x90, 0x45, 0x11, 0xC4, 0x6E, 0xBB, 0xC6, 0x13, 0xB9, 0x6C, 0x38, 0xED, 0x47, 0x92] ++
  [0xBD, 0x68, 0xC2, 0x17, 0x43, 0x96, 0x3C, 0xE9, 0x94, 0x41, 0xEB, 0x3E, 0x6A, 0xBF, 0x15, 0xC0] ++
  [0x4B, 0x9E, 0x34, 0xE1, 0xB5, 0x60, 0xCA, 0x1F, 0x62, 0xB7, 0x1D, 0xC8, 0x9C, 0x49, 0xE3, 0x36] ++
  [0x19, 0xCC, 0x66, 0xB3, 0xE7, 0x32, 0x98, 0x4D, 0x30, 0xE5, 0x4F, 0x9A, 0xCE, 0x1B, 0xB1, 0x64] ++
  [0x72, 0xA7, 0x0D, 0xD8, 0x8C, 0x59, 0xF3, 0x26, 0x5B, 0x8E, 0x24, 0xF1, 0xA5, 0x70, 0xDA, 0x0F] ++
  [0x20, 0xF5, 0x5F, 0x8A, 0xDE, 0x0B, 0xA1, 0x74, 0x09, 0xDC, 0x76, 0xA3, 0xF7, 0x22, 0x88, 0x5D] ++
  [0xD6, 0x03, 0xA9, 0x7C, 0x28, 0xFD, 0x57, 0x82, 0xFF, 0x2A, 0x80, 0x55, 0x01, 0xD4, 0x7E, 0xAB] ++
  [0x84, 0x51, 0xFB, 0x2E, 0x7A, 0xAF, 0x05, 0xD0, 0xAD, 0x78, 0xD2, 0x07, 0x53, 0x86, 0x2C, 0xF9]

/-- The scan of 44_frame_sync.md as a relation: from buffer `B` it leaves `B'` and emits `es`. One rule per way a pass
over steps a to g can go; `g` is the leading garbage of steps a and b. -/
inductive Scans (sync : Byte) : Bytes → Bytes → List Event → Prop where
  /-- Step a, no sync byte: everything is cleared (R162). -/
  | clear {g} : sync ∉ g → Scans sync g [] []
  /-- Step c: the lone sync byte waits for its length byte (R163, R164). -/
  | waitLength {g} : sync ∉ g → Scans sync (g ++ [sync]) [sync] []
  /-- Step e: a length byte that declares more than 64 bytes, or is below 2; only the sync byte is dropped (R166; R167,
  the spec's decision D9, log entry 10). -/
  | badLength {g n rest B' es} : sync ∉ g → (64 < n.toNat + 2 ∨ n.toNat < 2) → Scans sync (n :: rest) B' es →
      Scans sync (g ++ sync :: n :: rest) B' es
  /-- Step f: fewer bytes than declared; the candidate waits (R168). -/
  | waitBody {g n rest} : sync ∉ g → 2 ≤ n.toNat → n.toNat + 2 ≤ 64 → rest.length < n.toNat →
      Scans sync (g ++ sync :: n :: rest) (sync :: n :: rest) []
  /-- Step g: a complete candidate is drained and gives one event (R169). -/
  | candidate {g n body crc rest B' es} : sync ∉ g → 2 ≤ n.toNat → n.toNat + 2 ≤ 64 → body.length + 1 = n.toNat →
      Scans sync rest B' es →
      Scans sync (g ++ sync :: n :: body ++ crc :: rest) B' ((if crc8 body = crc then .valid body else .crcError) :: es)

/-- `SYNC.PUSH` of `chunk` to link `k` leaves `B'` in that link's accumulator and answers the events `es`; every other
link, every sync byte, the type codes and the pending requests stay as they are. -/
abbrev Pushes (k : Nat) (l : Link) (chunk : Bytes) (s : State) (B' : Bytes) (es : List Event) : Prop :=
  exec (.syncPush k chunk) s =
    .next { s with links := s.links.set k ⟨l.syncAddr, B'⟩, responses := s.responses ++ [.done (.events es)] }

/-- The state `s` with link `k` at its sync byte and an empty accumulator. -/
abbrev emptied (s : State) (k : Nat) (l : Link) : State := { s with links := s.links.set k ⟨l.syncAddr, []⟩ }

end Sys2Proof.Claims

open Sys2Proof.Claims

/-! ### U1, the CRC-8 generator -/

/-- `CRC8` answers a byte for every operand, and that byte is the remainder of the message times x^8 by the generator
over GF(2) (R80, R82): message·x^8 is a multiple of the generator plus it. That 0xD5 stands for 0x1D5, the x^8 term
implicit, and that bytes go most significant bit first, is no plain rule: R80 marks it as general knowledge (G4), log
entry 17. -/
def Obligations.Crc8AnswersPolynomialRemainder : Prop :=
  ∀ (m : Bytes) (s : State), ∃ (c : Byte) (shifts : List Nat),
    Answers (.crc8 m) s (.done (.checksum c)) ∧ messageNumber m <<< 8 = generatorMultiple shifts ^^^ c.toNat

/-- R84: the check value, the register after each of its nine bytes, and the eight shifts of the first. -/
def Obligations.Crc8GivesTheCheckValue : Prop :=
  let m : Bytes := [0x31, 0x32, 0x33, 0x34, 0x35, 0x36, 0x37, 0x38, 0x39]
  crc8 m = 0xBC ∧
  (List.range 9).map (fun k => crc8 (m.take (k + 1))) = [0x23, 0x87, 0xE7, 0x8A, 0x64, 0xB0, 0xBB, 0x45, 0xBC] ∧
  (List.range 8).map (fun k => (crcShift^[k + 1]) 0x31) = [0x62, 0xC4, 0x5D, 0xBA, 0xA1, 0x97, 0xFB, 0x23] ∧
  ∀ s : State, Answers (.crc8 m) s (.done (.checksum 0xBC))

/-- R83: the byte step is one look-up in the table, the table is linear, and `CRC8` is the fold of the look-up. The
table's values rest on the reading of the CRC parameters that the spec marks as general knowledge (G4): left-shifting,
most significant bit first, x^8 implicit; log entry 17. -/
def Obligations.Crc8IsTheTableFold : Prop :=
  crcTable.length = 256 ∧
  (∀ c b : Byte, crcUpdate c b = crcTable.getD (c ^^^ b).toNat 0) ∧
  (∀ x y : Byte, crcTable.getD (x ^^^ y).toNat 0 = crcTable.getD x.toNat 0 ^^^ crcTable.getD y.toNat 0) ∧
  ∀ m : Bytes, crc8 m = m.foldl (fun c b => crcTable.getD (c ^^^ b).toNat 0) 0x00

/-- R85, and the corner case of R82: the residue of a message and a byte is zero exactly when the byte is the message's
CRC, and leading zero bytes do not show. -/
def Obligations.Crc8ResidueIsZeroExactlyOnTheCrc : Prop :=
  (∀ (m : Bytes) (b : Byte), crc8 (m ++ [b]) = 0 ↔ b = crc8 m) ∧ ∀ m : Bytes, crc8 (0 :: m) = crc8 m

/-! ### U2, the channel bit-packer -/

/-- `CH.PACK` of channels in range (R91, R35): 22 bytes, bit `j` of channel `i` at stream bit 11·i + j. The bit order is
the spec's reading D14. -/
def Obligations.ChPackPlacesEveryBit : Prop :=
  ∀ (ch : Channels) (s : State), InRange ch → ∃ out : Bytes, Answers (.chPack ch) s (.done (.packed out)) ∧
    out.length = 22 ∧ ∀ (i : Fin 16) (j : Nat), j < 11 → streamBit out (11 * i.val + j) = ch[i].getLsbD j

/-- R96: one channel above 2047, in whichever lane, fails the whole `CH.PACK`. -/
def Obligations.ChPackFailsOnAnyLaneOutOfRange : Prop :=
  ∀ (ch : Channels) (s : State), (∃ i : Fin 16, 2047 < ch[i].toNat) → Answers (.chPack ch) s (.failed .range)

/-- `CH.UNPACK` (R93): 22 bytes or more give 16 channels, each at most 2047, channel `i` being stream bits 11·i to
11·i + 10; fewer give SHORT. -/
def Obligations.ChUnpackReadsEveryBit : Prop :=
  ∀ (b : Bytes) (s : State),
    (22 ≤ b.length → ∃ ch : Channels, Answers (.chUnpack b) s (.done (.channels ch)) ∧ InRange ch ∧
      ∀ (i : Fin 16) (j : Nat), j < 11 → ch[i].getLsbD j = streamBit b (11 * i.val + j)) ∧
    (b.length < 22 → Answers (.chUnpack b) s (.failed .short))

/-- R94: unpacking what packing gave returns every channel vector in range. -/
def Obligations.ChannelUnpackInvertsPack : Prop :=
  ∀ (ch : Channels) (s : State), InRange ch → ∃ out : Bytes, Answers (.chPack ch) s (.done (.packed out)) ∧
    ∀ t : State, Answers (.chUnpack out) t (.done (.channels ch))

/-- R95: packing what unpacking gave returns the first 22 bytes. -/
def Obligations.ChannelPackInvertsUnpack : Prop :=
  ∀ (b : Bytes) (s : State), 22 ≤ b.length → ∃ ch : Channels, Answers (.chUnpack b) s (.done (.channels ch)) ∧
    ∀ t : State, Answers (.chPack ch) t (.done (.packed (b.take 22)))

/-! ### U3, encode -/

/-- `ENC` of Attitude (R103) and Vario (R106): the frame, with each signed field as its two's-complement bytes (R54;
two's complement is the spec's reading D13). -/
def Obligations.EncSignedVariantsAnswerTheirFrame : Prop :=
  ∀ (a : Byte) (s : State),
    (∀ pitch roll yaw : I16, AnswersFrame (.encAttitude a pitch roll yaw) s
      (frameOf a (s.tc.attitude :: bytes2 (unsignedOf 16 pitch.toInt) ++ bytes2 (unsignedOf 16 roll.toInt) ++
        bytes2 (unsignedOf 16 yaw.toInt)))) ∧
    ∀ v : I16, AnswersFrame (.encVario a v) s (frameOf a (s.tc.vario :: bytes2 (unsignedOf 16 v.toInt)))

/-- `ENC` of Gps (R104; the signed fields by the spec's reading D13). -/
def Obligations.EncGpsAnswersItsFrame : Prop :=
  ∀ (a : Byte) (lat lon : I32) (speed heading alt : U16) (sats : Byte) (s : State),
    AnswersFrame (.encGps a lat lon speed heading alt sats) s
      (frameOf a (s.tc.gps :: bytes4 (unsignedOf 32 lat.toInt) ++ bytes4 (unsignedOf 32 lon.toInt) ++
        bytes2 speed.toNat ++ bytes2 heading.toNat ++ bytes2 alt.toNat ++ [sats]))

/-- `ENC` of BaroAlt (R108) and Airspeed (R109): the raw words (for `alt` the spec's decision D12). -/
def Obligations.EncRawWordVariantsAnswerTheirFrame : Prop :=
  ∀ (a : Byte) (s : State),
    (∀ (alt : U16) (v : Byte),
      AnswersFrame (.encBaroAlt a alt v) s (frameOf a (s.tc.baroAlt :: bytes2 alt.toNat ++ [v]))) ∧
    ∀ speed : U16, AnswersFrame (.encAirspeed a speed) s (frameOf a (s.tc.airspeed :: bytes2 speed.toNat))

/-- `ENC` of BatterySensor (R105): a capacity of at most 0xFFFFFF goes out in three bytes, a greater one fails RANGE and
is never truncated. -/
def Obligations.EncBatteryRefusesWideCapacity : Prop :=
  ∀ (a : Byte) (voltage current : U16) (capacity : U32) (remaining : Byte) (s : State),
    (capacity.toNat ≤ 0xFFFFFF → AnswersFrame (.encBatterySensor a voltage current capacity remaining) s
      (frameOf a (s.tc.batterySensor :: bytes2 voltage.toNat ++ bytes2 current.toNat ++ bytes3 capacity.toNat ++
        [remaining]))) ∧
    (0xFFFFFF < capacity.toNat →
      Answers (.encBatterySensor a voltage current capacity remaining) s (.failed .range))

/-- `ENC` of FlightMode (R107): up to 59 bytes go out verbatim with one terminator, more fail OVERSIZE. That no byte of
`mode` is tested is the spec's decision D17. -/
def Obligations.EncFlightModeCopiesUpTo59Bytes : Prop :=
  ∀ (a : Byte) (mode : Bytes) (s : State),
    (mode.length ≤ 59 → AnswersFrame (.encFlightMode a mode) s (frameOf a (s.tc.flightMode :: mode ++ [0x00]))) ∧
    (59 < mode.length → Answers (.encFlightMode a mode) s (.failed .oversize))

/-- `ENC` of Rpm (R110): a value above 0xFFFFFF fails RANGE whatever their number; otherwise up to 19 values go out in
three bytes each, and more fail OVERSIZE. The order of the two causes is the spec's decision D21, the empty list D18. -/
def Obligations.EncRpmSendsUpTo19Values : Prop :=
  ∀ (a sourceId : Byte) (values : List U32) (s : State),
    ((∃ v ∈ values, 0xFFFFFF < v.toNat) → Answers (.encRpm a sourceId values) s (.failed .range)) ∧
    ((∀ v ∈ values, v.toNat ≤ 0xFFFFFF) →
      (values.length ≤ 19 → AnswersFrame (.encRpm a sourceId values) s
        (frameOf a (s.tc.rpm :: sourceId :: values.flatMap fun v => bytes3 v.toNat))) ∧
      (19 < values.length → Answers (.encRpm a sourceId values) s (.failed .oversize)))

/-- `ENC` of RcChannelsPacked (R111): in range, a 26-byte frame with length byte 0x18 around what `CH.PACK` answers;
else RANGE. -/
def Obligations.EncRcChannelsCarriesThePackedBuffer : Prop :=
  ∀ (a : Byte) (ch : Channels) (s : State),
    (InRange ch → ∃ out : Bytes, Answers (.chPack ch) s (.done (.packed out)) ∧
      AnswersFrame (.encRcChannelsPacked a ch) s (frameOf a (s.tc.rcChannelsPacked :: out)) ∧
      (frameOf a (s.tc.rcChannelsPacked :: out)).length = 26 ∧
      (frameOf a (s.tc.rcChannelsPacked :: out))[1]? = some 0x18) ∧
    ((∃ i : Fin 16, 2047 < ch[i].toNat) → Answers (.encRcChannelsPacked a ch) s (.failed .range))

/-- R112: `ENC` of Unknown fails for every type code, through the ENC_VARIANT row and through `ENC`. -/
def Obligations.EncUnknownAlwaysFails : Prop :=
  ∀ (a t : Byte) (s : State), Answers (.encUnknown a t) s (.failed .unknownVariant) ∧
    Answers (.enc a (.unknown t)) s (.failed .unknownVariant)

/-- `ENC` (R100, R101, R114): it does what the ENC_VARIANT row of its variant does, so its payload is that of the row's
rule (R103 to R112); it fails exactly on the list of R101, with the cause R200 gives (the spec's decision D21, log entry
13), and otherwise answers a frame of 4 to 64 bytes whose length byte, address, type byte and CRC are right. -/
def Obligations.EncAnswersFrameOrListedFailure : Prop :=
  ∀ (a : Byte) (p : PacketVariant) (s : State), exec (.enc a p) s = exec (encRow a p) s ∧
    (∀ c, p.encFailure = some c → Answers (.enc a p) s (.failed c)) ∧
    (p.encFailure = none → ∃ f : Bytes, AnswersFrame (.enc a p) s f ∧ 4 ≤ f.length ∧ f.length ≤ 64 ∧
      f[0]? = some a ∧ f[1]? = some (BitVec.ofNat 8 (f.length - 2)) ∧ (∃ n, p.packetType = some n ∧
      f[2]? = some (s.tc.code n)) ∧ f.getLast? = some (crc8 (bodyOf f)))

/-- R113: what `ENC` answers is what `WRAP` answers of the frame's body. -/
def Obligations.EncEqualsWrapOfItsBody : Prop :=
  ∀ (a : Byte) (p : PacketVariant) (s : State) (f : Bytes), AnswersFrame (.enc a p) s f →
    AnswersFrame (.wrap a (bodyOf f)) s f

/-- `WRAP` (R113, the spec's decision D11): a body of 1 to 61 bytes gives its frame, an empty one SHORT, a longer one
OVERSIZE. -/
def Obligations.WrapAnswersTheFrameOfItsBody : Prop :=
  ∀ (a : Byte) (body : Bytes) (s : State),
    (body.length = 0 → Answers (.wrap a body) s (.failed .short)) ∧
    (1 ≤ body.length → body.length ≤ 61 → AnswersFrame (.wrap a body) s (frameOf a body)) ∧
    (62 ≤ body.length → Answers (.wrap a body) s (.failed .oversize))

/-! ### U3, decode -/

/-- BODY rows Attitude (R133) and Vario (R136): each field is the signed big-endian number of its bytes; a shorter
payload is FRAMING; bytes beyond the layout do not matter (the spec's readings D13 and D15). -/
def Obligations.DecBodySignedTypesReadTheirFields : Prop :=
  ∀ s : State,
    (∀ (a b c d e f : Byte) (rest : Bytes), ∃ pitch roll yaw : I16,
      AnswersPacket (.decBodyAttitude (a :: b :: c :: d :: e :: f :: rest)) s (.attitude pitch roll yaw) ∧
      pitch.toInt = signedOf 16 (num2 a b) ∧ roll.toInt = signedOf 16 (num2 c d) ∧
      yaw.toInt = signedOf 16 (num2 e f)) ∧
    (∀ pl : Bytes, pl.length < 6 → Answers (.decBodyAttitude pl) s (.failed .framing)) ∧
    (∀ (a b : Byte) (rest : Bytes), ∃ v : I16, AnswersPacket (.decBodyVario (a :: b :: rest)) s (.vario v) ∧
      v.toInt = signedOf 16 (num2 a b)) ∧
    (∀ pl : Bytes, pl.length < 2 → Answers (.decBodyVario pl) s (.failed .framing))

/-- BODY row Gps (R134; D13, D15). -/
def Obligations.DecBodyGpsReadsItsFields : Prop :=
  ∀ s : State,
    (∀ (a0 a1 a2 a3 o0 o1 o2 o3 s0 s1 h0 h1 e0 e1 k : Byte) (rest : Bytes),
      ∃ (lat lon : I32) (speed heading alt : U16),
      AnswersPacket (.decBodyGps ([a0, a1, a2, a3, o0, o1, o2, o3, s0, s1, h0, h1, e0, e1, k] ++ rest)) s
        (.gps lat lon speed heading alt k) ∧
      lat.toInt = signedOf 32 (num4 a0 a1 a2 a3) ∧ lon.toInt = signedOf 32 (num4 o0 o1 o2 o3) ∧
      speed.toNat = num2 s0 s1 ∧ heading.toNat = num2 h0 h1 ∧ alt.toNat = num2 e0 e1) ∧
    (∀ pl : Bytes, pl.length < 15 → Answers (.decBodyGps pl) s (.failed .framing))

/-- BODY rows BatterySensor (R135), BaroAlt (R138) and Airspeed (R139); D12, D15. -/
def Obligations.DecBodyUnsignedTypesReadTheirFields : Prop :=
  ∀ s : State,
    (∀ (v0 v1 i0 i1 q0 q1 q2 r : Byte) (rest : Bytes), ∃ (voltage current : U16) (capacity : U32),
      AnswersPacket (.decBodyBatterySensor ([v0, v1, i0, i1, q0, q1, q2, r] ++ rest)) s
        (.batterySensor voltage current capacity r) ∧
      voltage.toNat = num2 v0 v1 ∧ current.toNat = num2 i0 i1 ∧ capacity.toNat = num3 q0 q1 q2) ∧
    (∀ pl : Bytes, pl.length < 8 → Answers (.decBodyBatterySensor pl) s (.failed .framing)) ∧
    (∀ (e0 e1 v : Byte) (rest : Bytes), ∃ alt : U16,
      AnswersPacket (.decBodyBaroAlt ([e0, e1, v] ++ rest)) s (.baroAlt alt v) ∧ alt.toNat = num2 e0 e1) ∧
    (∀ pl : Bytes, pl.length < 3 → Answers (.decBodyBaroAlt pl) s (.failed .framing)) ∧
    (∀ (s0 s1 : Byte) (rest : Bytes), ∃ speed : U16,
      AnswersPacket (.decBodyAirspeed ([s0, s1] ++ rest)) s (.airspeed speed) ∧ speed.toNat = num2 s0 s1) ∧
    (∀ pl : Bytes, pl.length < 2 → Answers (.decBodyAirspeed pl) s (.failed .framing))

/-- BODY row FlightMode (R137): the bytes before the first 0x00, whatever follows it; without a 0x00, FRAMING. Both are
the spec's decision D16. -/
def Obligations.DecBodyFlightModeStopsAtTheTerminator : Prop :=
  ∀ s : State,
    (∀ mode rest : Bytes, 0x00 ∉ mode →
      AnswersPacket (.decBodyFlightMode (mode ++ 0x00 :: rest)) s (.flightMode mode)) ∧
    (∀ pl : Bytes, 0x00 ∉ pl → Answers (.decBodyFlightMode pl) s (.failed .framing))

/-- BODY row Rpm (R140): the source id and every whole group of three, a remainder of one or two bytes ignored (the
spec's decision D18); an empty payload is FRAMING. -/
def Obligations.DecBodyRpmReadsWholeGroups : Prop :=
  ∀ s : State,
    (∀ (source : Byte) (groups : List (Byte × Byte × Byte)) (rest : Bytes), rest.length < 3 → ∃ values : List U32,
      AnswersPacket (.decBodyRpm (source :: groups.flatMap (fun g => [g.1, g.2.1, g.2.2]) ++ rest)) s
        (.rpm source values) ∧
      values.map BitVec.toNat = groups.map fun g => num3 g.1 g.2.1 g.2.2) ∧
    Answers (.decBodyRpm []) s (.failed .framing)

/-- BODY row RcChannelsPacked (R141): with 22 bytes or more, the channels `CH.UNPACK` answers; fewer are FRAMING, not
SHORT (R195). -/
def Obligations.DecBodyRcChannelsIsUnpack : Prop :=
  ∀ (pl : Bytes) (s : State),
    (22 ≤ pl.length → ∃ ch : Channels, AnswersPacket (.decBodyRcChannelsPacked pl) s (.rcChannelsPacked ch) ∧
      Answers (.chUnpack pl) s (.done (.channels ch)) ∧ InRange ch) ∧
    (pl.length < 22 → Answers (.decBodyRcChannelsPacked pl) s (.failed .framing))

/-- R142: a type byte outside the nine handled ones answers Unknown with that byte, for every payload, through
`DEC.BODY` and through the row of each recognized name and the default row. -/
def Obligations.DecBodyUnknownTypesPassThrough : Prop :=
  ∀ (pl : Bytes) (s : State),
    (∀ t : Byte, t ∉ [s.tc.attitude, s.tc.gps, s.tc.batterySensor, s.tc.vario, s.tc.flightMode, s.tc.baroAlt,
        s.tc.airspeed, s.tc.rpm, s.tc.rcChannelsPacked] → AnswersPacket (.decBody (t :: pl)) s (.unknown t)) ∧
    AnswersPacket (.decBodyHeartbeat pl) s (.unknown s.tc.heartbeat) ∧
    AnswersPacket (.decBodyTemp pl) s (.unknown s.tc.temp) ∧
    AnswersPacket (.decBodyVoltages pl) s (.unknown s.tc.voltages) ∧
    AnswersPacket (.decBodyVideoTransmitter pl) s (.unknown s.tc.videoTransmitter) ∧
    AnswersPacket (.decBodyLinkStatistics pl) s (.unknown s.tc.linkStatistics) ∧
    AnswersPacket (.decBodyLinkStatisticsRx pl) s (.unknown s.tc.linkStatisticsRx) ∧
    AnswersPacket (.decBodyLinkStatisticsTx pl) s (.unknown s.tc.linkStatisticsTx) ∧
    AnswersPacket (.decBodyDeviceInfo pl) s (.unknown s.tc.deviceInfo) ∧
    AnswersPacket (.decBodyConfigRead pl) s (.unknown s.tc.configRead) ∧
    AnswersPacket (.decBodyConfigWrite pl) s (.unknown s.tc.configWrite) ∧
    AnswersPacket (.decBodyRadioId pl) s (.unknown s.tc.radioId) ∧
    ∀ t : Byte, (Instr.decBodyUnknown t pl).wellFormed s.tc = true →
      AnswersPacket (.decBodyUnknown t pl) s (.unknown t)

/-- `DEC.BODY` (R131) does what the BODY row of its first byte does, and fails FRAMING on the empty body (the latter the
spec's decision D11). -/
def Obligations.DecBodyDispatchesOnTheTypeByte : Prop :=
  ∀ s : State, s.tc.distinct = true →
    (∀ (n : PacketType) (pl : Bytes), exec (.decBody (s.tc.code n :: pl)) s = exec (bodyRow s.tc (s.tc.code n) pl) s ∧
      s.tc.lookup (s.tc.code n) = some n) ∧
    (∀ (t : Byte) (pl : Bytes), (∀ n, s.tc.code n ≠ t) →
      exec (.decBody (t :: pl)) s = exec (.decBodyUnknown t pl) s) ∧
    Answers (.decBody []) s (.failed .framing)

/-- R146: `DEC`, `DEC.CHK` and `DEC.BODY` answer for every byte string, with a variant, or with FRAMING, or, `DEC.CHK`
alone, with CRC. -/
def Obligations.DecodersAlwaysAnswer : Prop :=
  ∀ (b : Bytes) (s : State),
    ((∃ p, AnswersPacket (.decBody b) s p) ∨ Answers (.decBody b) s (.failed .framing)) ∧
    ((∃ p, AnswersPacket (.dec b) s p) ∨ Answers (.dec b) s (.failed .framing)) ∧
    ((∃ p, AnswersPacket (.decChk b) s p) ∨ Answers (.decChk b) s (.failed .framing) ∨
      Answers (.decChk b) s (.failed .crc))

/-- R130 to R132 with R133 to R142: a body whose type byte is a code of the map and whose payload fits its type decodes;
so does, with the same variant, any frame of it (up to the 254 bytes of body that a length byte can declare), by `DEC`
whatever the address and the CRC byte, and by `DEC.CHK` when the CRC byte is right. That payloads with bytes beyond their
layout (D15) or after FlightMode's terminator (D16), and Rpm payloads without a value or with one or two bytes left over
(D18), decode is the spec's own decision, log entry 16. -/
def Obligations.WellShapedFramesDecode : Prop :=
  ∀ (n : PacketType) (pl : Bytes) (s : State), s.tc.distinct = true → PayloadFits n pl → ∃ p : PacketVariant,
    AnswersPacket (.decBody (s.tc.code n :: pl)) s p ∧
    (pl.length ≤ 253 → ∀ a c : Byte,
      AnswersPacket (.dec (a :: BitVec.ofNat 8 (pl.length + 2) :: (s.tc.code n :: pl) ++ [c])) s p ∧
      AnswersPacket (.decChk (frameOf a (s.tc.code n :: pl))) s p)

/-- `DEC` (R130): FRAMING unless the frame has four bytes and its length byte is two less than its length; then
`DEC.BODY` of the frame's body. -/
def Obligations.DecIsShapeCheckThenBody : Prop :=
  ∀ (f : Bytes) (s : State),
    (f.length < 4 → Answers (.dec f) s (.failed .framing)) ∧
    (∀ n : Byte, f[1]? = some n → n.toNat ≠ f.length - 2 → Answers (.dec f) s (.failed .framing)) ∧
    (∀ n : Byte, f[1]? = some n → 4 ≤ f.length → n.toNat = f.length - 2 →
      exec (.dec f) s = exec (.decBody (bodyOf f)) s)

/-- `DEC.CHK` (R132): FRAMING below four bytes (the spec's decision D19), then CRC on a wrong last byte, then `DEC`. -/
def Obligations.DecChkTestsTheCrcFirst : Prop :=
  ∀ (f : Bytes) (s : State),
    (f.length < 4 → Answers (.decChk f) s (.failed .framing)) ∧
    (4 ≤ f.length → f.getLast? ≠ some (crc8 (bodyOf f)) → Answers (.decChk f) s (.failed .crc)) ∧
    (4 ≤ f.length → f.getLast? = some (crc8 (bodyOf f)) → exec (.decChk f) s = exec (.dec f) s)

/-- R144: `DEC` looks neither at the address byte nor at the CRC byte, and a frame of up to 257 bytes passes its shape
check. -/
def Obligations.DecIgnoresAddressAndCrc : Prop :=
  ∀ (a a' c c' : Byte) (body : Bytes) (s : State),
    (∀ n : Byte, exec (.dec (a :: n :: body ++ [c])) s = exec (.dec (a' :: n :: body ++ [c'])) s) ∧
    (1 ≤ body.length → body.length ≤ 254 →
      exec (.dec (a :: BitVec.ofNat 8 (body.length + 1) :: body ++ [c])) s = exec (.decBody body) s)

/-- R143, the spec's decision D15: bytes after a fixed layout do not change what is decoded. -/
def Obligations.ExcessPayloadIsIgnored : Prop :=
  ∀ (pl extra : Bytes) (s : State),
    (6 ≤ pl.length → exec (.decBodyAttitude (pl ++ extra)) s = exec (.decBodyAttitude pl) s) ∧
    (15 ≤ pl.length → exec (.decBodyGps (pl ++ extra)) s = exec (.decBodyGps pl) s) ∧
    (8 ≤ pl.length → exec (.decBodyBatterySensor (pl ++ extra)) s = exec (.decBodyBatterySensor pl) s) ∧
    (2 ≤ pl.length → exec (.decBodyVario (pl ++ extra)) s = exec (.decBodyVario pl) s) ∧
    (0x00 ∈ pl → exec (.decBodyFlightMode (pl ++ extra)) s = exec (.decBodyFlightMode pl) s) ∧
    (3 ≤ pl.length → exec (.decBodyBaroAlt (pl ++ extra)) s = exec (.decBodyBaroAlt pl) s) ∧
    (2 ≤ pl.length → exec (.decBodyAirspeed (pl ++ extra)) s = exec (.decBodyAirspeed pl) s) ∧
    (22 ≤ pl.length → exec (.decBodyRcChannelsPacked (pl ++ extra)) s = exec (.decBodyRcChannelsPacked pl) s)

/-- R147, the codec's round trip: what `ENC` builds of a variant in range, `DEC.CHK`, `DEC` and, of its body, `DEC.BODY`
give back. -/
def Obligations.CodecRoundTrip : Prop :=
  ∀ (a : Byte) (p : PacketVariant) (s : State), s.tc.distinct = true → p.roundTrips →
    ∃ f : Bytes, AnswersFrame (.enc a p) s f ∧
      ∀ t : State, t.tc = s.tc → AnswersPacket (.decChk f) t p ∧ AnswersPacket (.dec f) t p ∧
        AnswersPacket (.decBody (bodyOf f)) t p

/-! ### U4, the frame synchronizer -/

/-- `SYNC.PUSH` (R160): it always completes on a link that is there, and does what the scan relation of R161 to R171
says of the accumulator with the chunk appended; only that link's accumulator and the response change. A length byte
below 2 is treated by the spec's decision D9 (log entry 10). -/
def Obligations.SyncPushRunsTheScan : Prop :=
  ∀ (k : Nat) (l : Link) (chunk : Bytes) (s : State), s.links[k]? = some l →
    ∃ (B' : Bytes) (es : List Event), Pushes k l chunk s B' es ∧ Scans l.syncAddr (l.buf ++ chunk) B' es

/-- R170: the scan has an end, and `len(B) + 1` passes reach it: more change nothing. The relation the result is held to
treats a length byte below 2 by the spec's decision D9, the default of the open `SHORT_LEN_POLICY` (log entry 10). -/
def Obligations.ScanEndsWithinItsBound : Prop :=
  ∀ (sync : Byte) (B : Bytes) (fuel : Nat), B.length + 1 ≤ fuel →
    scan sync fuel B = scan sync (B.length + 1) B ∧ Scans sync B (scan sync fuel B).1 (scan sync fuel B).2

/-- R13, R172: whatever a link held before, after a push it is in one of the three at-rest shapes, so it holds at most
63 bytes. That a waiting candidate's length byte is at least 2, and that no `Valid` body is empty, rest on the spec's
decision D9, the default of the open `SHORT_LEN_POLICY` (log entry 10). -/
def Obligations.PushLeavesTheLinkAtRest : Prop :=
  ∀ (k : Nat) (l : Link) (chunk : Bytes) (s : State), s.links[k]? = some l →
    ∃ (B' : Bytes) (es : List Event), Pushes k l chunk s B' es ∧ (Link.mk l.syncAddr B').atRest = true ∧
      B'.length ≤ 63 ∧ ∀ body, Event.valid body ∈ es → 1 ≤ body.length ∧ body.length ≤ 61

/-- R173: chunking does not matter: two pushes leave the accumulator and give the events of one push of both chunks. It
is stated of the scan that treats a length byte below 2 by the spec's decision D9 (log entry 10). -/
def Obligations.ChunkingDoesNotMatter : Prop :=
  ∀ (k : Nat) (l : Link) (c₁ c₂ : Bytes) (s : State), s.links[k]? = some l →
    ∃ (B₁ B₂ : Bytes) (e₁ e₂ : List Event) (s₁ : State), exec (.syncPush k c₁) s = .next s₁ ∧
      Pushes k l c₁ s B₁ e₁ ∧ Pushes k ⟨l.syncAddr, B₁⟩ c₂ s₁ B₂ e₂ ∧ Pushes k l (c₁ ++ c₂) s B₂ (e₁ ++ e₂)

/-- R162, step a: `find` gives the least index of the sync byte, and when there is none in what is held and pushed, all
of it is cleared with no event. -/
def Obligations.NoSyncByteClearsEverything : Prop :=
  (∀ (B : Bytes) (v : Byte) (o : Nat),
    Memory.find B v = some o ↔ B[o]? = some v ∧ ∀ i, i < o → B[i]? ≠ some v) ∧
  ∀ (k : Nat) (l : Link) (chunk : Bytes) (s : State), s.links[k]? = some l → l.syncAddr ∉ l.buf ++ chunk →
    Pushes k l chunk s [] []

/-- R163, step b: bytes before the first sync byte leave no trace: the push does what a push of the rest to an empty
accumulator does. -/
def Obligations.LeadingGarbageIsDropped : Prop :=
  ∀ (k : Nat) (l : Link) (chunk garbage rest : Bytes) (s : State), s.links[k]? = some l →
    l.syncAddr ∉ garbage → l.buf ++ chunk = garbage ++ l.syncAddr :: rest →
    exec (.syncPush k chunk) s = exec (.syncPush k (l.syncAddr :: rest)) (emptied s k l)

/-- R166, step e: a length byte that declares more than 64 bytes costs exactly the sync byte before it, and no event;
the length byte itself takes part in the new search, with every byte after it, however many there are. -/
def Obligations.OversizeLengthSkipsOneByte : Prop :=
  ∀ (k : Nat) (l : Link) (n : Byte) (chunk garbage rest : Bytes) (s : State), s.links[k]? = some l →
    l.syncAddr ∉ garbage → l.buf ++ chunk = garbage ++ l.syncAddr :: n :: rest → 64 < n.toNat + 2 →
    exec (.syncPush k chunk) s = exec (.syncPush k (n :: rest)) (emptied s k l)

/-- R167, the spec's decision D9 (log entry 10): a length byte of 0 or 1 is treated the same. -/
def Obligations.UndersizeLengthSkipsOneByte : Prop :=
  ∀ (k : Nat) (l : Link) (n : Byte) (chunk garbage rest : Bytes) (s : State), s.links[k]? = some l →
    l.syncAddr ∉ garbage → l.buf ++ chunk = garbage ++ l.syncAddr :: n :: rest → n.toNat < 2 →
    exec (.syncPush k chunk) s = exec (.syncPush k (n :: rest)) (emptied s k l)

/-- R164, step c, and R168, step f: a lone sync byte, and a candidate with fewer bytes than it declares, wait in the
accumulator unchanged, with no event. -/
def Obligations.PartialFrameWaits : Prop :=
  ∀ (k : Nat) (l : Link) (n : Byte) (chunk garbage rest : Bytes) (s : State), s.links[k]? = some l →
    l.syncAddr ∉ garbage →
    (l.buf ++ chunk = garbage ++ [l.syncAddr] → Pushes k l chunk s [l.syncAddr] []) ∧
    (l.buf ++ chunk = garbage ++ l.syncAddr :: n :: rest → 2 ≤ n.toNat → n.toNat + 2 ≤ 64 → rest.length < n.toNat →
      Pushes k l chunk s (l.syncAddr :: n :: rest) [])

/-- R169, step g: a complete candidate gives `Valid` of its body when the CRC matches and `CrcError` when it does not,
and either way is drained: what follows is scanned as if it came alone. -/
def Obligations.CompleteCandidateGivesOneEvent : Prop :=
  ∀ (k : Nat) (l : Link) (n crc : Byte) (chunk garbage body rest : Bytes) (s : State), s.links[k]? = some l →
    l.syncAddr ∉ garbage → l.buf ++ chunk = garbage ++ l.syncAddr :: n :: body ++ crc :: rest →
    2 ≤ n.toNat → n.toNat + 2 ≤ 64 → body.length + 1 = n.toNat →
    ∃ (B' : Bytes) (es : List Event), Pushes k ⟨l.syncAddr, []⟩ rest (emptied s k l) B' es ∧
      (crc8 body = crc → Pushes k l chunk s B' (.valid body :: es)) ∧
      (crc8 body ≠ crc → Pushes k l chunk s B' (.crcError :: es))

/-- R114 with R177: a frame that `ENC` or `WRAP` answers under the link's own address, pushed to an empty accumulator,
gives exactly one `Valid` of its body and leaves the accumulator empty. -/
def Obligations.BuiltFrameIsReceivedOnce : Prop :=
  ∀ (k : Nat) (l : Link) (s : State), s.links[k]? = some l → l.buf = [] →
    (∀ (body f : Bytes), AnswersFrame (.wrap l.syncAddr body) s f → Pushes k l f s [] [.valid body]) ∧
    (∀ (p : PacketVariant) (f : Bytes), AnswersFrame (.enc l.syncAddr p) s f → Pushes k l f s [] [.valid (bodyOf f)])

/-- `SYNC.RESET` (R174, the spec's decision D8): the link's accumulator is emptied, whatever it held, with no event. -/
def Obligations.SyncResetEmptiesTheLink : Prop :=
  ∀ (k : Nat) (l : Link) (s : State), s.links[k]? = some l →
    exec (.syncReset k) s =
      .next { s with links := s.links.set k ⟨l.syncAddr, []⟩, responses := s.responses ++ [.done .nothing] }

/-- The model's own convention for a link the block does not have (log entry 8; R208 gives every link its
synchronizer): both operations of the synchronizer are refused by name, and nothing else is. -/
def Obligations.MissingLinkIsRefused : Prop :=
  ∀ (k : Nat) (chunk : Bytes) (s : State), s.links.length ≤ k →
    exec (.syncPush k chunk) s = .refused (.noSuchLink k) ∧ exec (.syncReset k) s = .refused (.noSuchLink k)

/-! ### The whole machine -/

/-- R10, R39, R201: an operation other than the two of the synchronizer changes no accumulator; and every operation
leaves the type codes, every sync byte and the number of links as they are (R12, R44), takes no pending request, and
gives exactly one response after the earlier ones (R202). -/
def Obligations.OnlyTheSynchronizerChangesAccumulators : Prop :=
  ∀ (i : Instr) (s s' : State), exec i s = .next s' →
    s'.tc = s.tc ∧ s'.requests = s.requests ∧ s'.links.map Link.syncAddr = s.links.map Link.syncAddr ∧
    (∃ r, s'.responses = s.responses ++ [r]) ∧ ∀ k, i.linkOf ≠ some k → s'.links[k]? = s.links[k]?

/-- R208, R40: a push to link `j` does the same, and gives the same events, whether or not a push to another link `k`
came before it. -/
def Obligations.LinksAreIndependent : Prop :=
  ∀ (j k : Nat) (lj lk : Link) (cj ck : Bytes) (s : State), j ≠ k → s.links[j]? = some lj → s.links[k]? = some lk →
    ∃ (Bj Bk : Bytes) (ej ek : List Event) (s₁ : State), Pushes j lj cj s Bj ej ∧ Pushes k lk ck s Bk ek ∧
      exec (.syncPush k ck) s = .next s₁ ∧ Pushes j lj cj s₁ Bj ej

/-- R39: the answer of every other operation depends on its operand and the type codes alone. -/
def Obligations.PureOperationsAnswerFromTheirOperand : Prop :=
  ∀ (i : Instr) (s t : State), i.linkOf = none → s.tc = t.tc → ∃ r : Response, Answers i s r ∧ Answers i t r

/-- R190: no operation traps: every instruction answers a next state, the two of the synchronizer on every link that
is there. -/
def Obligations.NoOperationTraps : Prop :=
  ∀ (i : Instr) (s : State), (∀ k, i.linkOf = some k → k < s.links.length) → ∃ s', exec i s = .next s'

/-- R191, R18: an operation reports only the conditions that the spec lists for it, so code 7 is never produced and
success alone has code 0. The codes are the spec's decision D20. -/
def Obligations.OnlyListedCausesAreReported : Prop :=
  ∀ (i : Instr) (s s' : State) (r : Response), exec i s = .next s' → s'.responses.getLast? = some r →
    (∀ c, r = .failed c → c ∈ i.mayRaise) ∧ r.cause ≠ 7 ∧ (r.cause = 0 ↔ r.ok = true)

/-- R13, R55, R44 as an invariant: distinct type codes and every link at rest stay so under every step, from every state
in which they hold, run or not. That the length byte of a link at rest is at least 2 rests on the spec's decision D9, the
default of the open `SHORT_LEN_POLICY` (log entry 10). -/
def Obligations.EveryStepKeepsTheInvariant : Prop :=
  ∀ s s' : State, s.Inv → step s = .next s' → s'.Inv

/-- R21, R220: after reset every accumulator is empty and the invariant holds. That there is a link, and the values of
`SYNC_ADDR` and `TC`, are the model's choice (log entries 6, 7 and 8). -/
def Obligations.ResetIsEmptyAndGood : Prop :=
  State.reset.Inv ∧ (∀ l ∈ State.reset.links, l.buf = []) ∧ State.reset.requests = [] ∧ State.reset.responses = []

/-- A step runs the decoded instruction: when the oldest request decodes to `i`, the step is `i` in the state from
which that request has been taken. With `i`'s own encoding as the request, that is every well-formed `i`. How requests
are held is the model's choice (log entry 3). -/
def Obligations.StepRunsTheDecodedInstruction : Prop :=
  ∀ (r : Bytes) (rest : List Bytes) (i : Instr) (s : State), s.requests = r :: rest → decode s.tc r = .ok i →
    step s = exec i { s with requests := rest }

/-- A step with nothing pending changes nothing, and a request the decoder rejects is refused with the decoder's reason;
so is every request whose select is 0xA to 0xF (R69, 93_implementation_defined.md U9; log entries 4 and 15). -/
def Obligations.StepRefusesUndecodableRequests : Prop :=
  ∀ s : State, (s.requests = [] → step s = .next s) ∧
    (∀ (r : Bytes) (rest : List Bytes) (e : DecodeError), s.requests = r :: rest → decode s.tc r = .error e →
      step s = .refused (.badRequest e)) ∧
    (∀ (op : BitVec 4) (operand : Bytes) (rest : List Bytes), 10 ≤ op.toNat →
      s.requests = (op.setWidth 8 :: operand) :: rest → step s = .refused (.badRequest (.unassignedSelect op)))

/-! ### Encoding -/

/-- Decode and encode agree: every well-formed instruction, with every operand, is what its own request decodes to. The
layout of a request is the model's choice (log entry 1), its select codes R69's. -/
def Obligations.DecodeInvertsEncode : Prop :=
  ∀ (tc : TypeCodes) (i : Instr), tc.distinct = true → i.wellFormed tc = true → decode tc (encode tc i) = .ok i

/-- The other direction: the decoder accepts nothing but the encodings of well-formed instructions, so no request has
two spellings and no bit of one is ignored (log entry 1). -/
def Obligations.DecoderAcceptsOnlyEncodings : Prop :=
  ∀ (tc : TypeCodes) (r : Bytes) (i : Instr), decode tc r = .ok i → encode tc i = r ∧ i.wellFormed tc = true

/-- A few requests written out byte by byte decode to the instruction they stand for (R69, R70; the layout is log
entry 1). -/
def Obligations.WrittenOutRequestsDecode : Prop :=
  decode Config.defaultTypeCodes [0x00, 0x31, 0x32] = .ok (.crc8 [0x31, 0x32]) ∧
  decode Config.defaultTypeCodes [0x03, 0xC8, 0x00, 0x07, 0xFF, 0xF1] = .ok (.enc 0xC8 (.vario (-15))) ∧
  decode Config.defaultTypeCodes [0x03, 0xC8, 0x01, 0x07] = .ok (.enc 0xC8 (.unknown 0x07)) ∧
  decode Config.defaultTypeCodes [0x13, 0xC8, 0x00, 0x0A, 0x04, 0xD2] = .ok (.encAirspeed 0xC8 1234) ∧
  decode Config.defaultTypeCodes [0x06, 0x00, 0xC8, 0x04] = .ok (.syncPush 0 [0xC8, 0x04]) ∧
  decode Config.defaultTypeCodes [0x18, 0x1E, 0x03, 0xE8] = .ok (.decBodyAttitude [0x03, 0xE8])
end

