-- ==== Sys2Proof/Laws/Operands.lean ====
section
/-! SUPPORT. What the operand forms and the tests of Flags.lean compute. -/

namespace Sys2Proof.Machine

/-! ### Bytes to numbers and back -/

theorem toNat_append_bytes (a b : Byte) : (a ++ b : BitVec 16).toNat = a.toNat * 256 + b.toNat := by
  rw [BitVec.toNat_append, ← Nat.shiftLeft_add_eq_or_of_lt b.isLt, Nat.shiftLeft_eq]

theorem toNat_ube16 (s : Bytes) (o : Nat) :
    (ube16 s o).toNat = (byteAt s o).toNat * 256 + (byteAt s (o + 1)).toNat := toNat_append_bytes _ _

theorem toNat_append_bytes3 (a b c : Byte) :
    (a ++ b ++ c : BitVec 24).toNat = a.toNat * 65536 + b.toNat * 256 + c.toNat := by
  rw [BitVec.toNat_append, ← Nat.shiftLeft_add_eq_or_of_lt c.isLt, toNat_append_bytes, Nat.shiftLeft_eq]
  omega

theorem toNat_ube24 (s : Bytes) (o : Nat) :
    (ube24 s o).toNat = (byteAt s o).toNat * 65536 + (byteAt s (o + 1)).toNat * 256 + (byteAt s (o + 2)).toNat := by
  have := (byteAt s o).isLt
  rw [ube24, BitVec.toNat_setWidth, toNat_append_bytes3]
  omega

theorem toNat_ube32 (s : Bytes) (o : Nat) :
    (ube32 s o).toNat = (byteAt s o).toNat * 16777216 + (byteAt s (o + 1)).toNat * 65536 +
      (byteAt s (o + 2)).toNat * 256 + (byteAt s (o + 3)).toNat := by
  rw [ube32, BitVec.toNat_append, ← Nat.shiftLeft_add_eq_or_of_lt (byteAt s (o + 3)).isLt, toNat_append_bytes3,
    Nat.shiftLeft_eq]
  omega

@[simp] theorem length_be16 (v : BitVec 16) : (be16 v).length = 2 := rfl
@[simp] theorem length_be24 (v : BitVec 32) : (be24 v).length = 3 := rfl
@[simp] theorem length_be32 (v : BitVec 32) : (be32 v).length = 4 := rfl

theorem ube16_be16 (v : BitVec 16) (r : Bytes) : ube16 (be16 v ++ r) 0 = v := by
  apply BitVec.eq_of_toNat_eq
  rw [toNat_ube16]
  simp [byteAt, be16, Nat.shiftRight_eq_div_pow]
  omega

theorem ube24_be24 {v : BitVec 32} (r : Bytes) (h : v.toNat ≤ 0xFFFFFF) : ube24 (be24 v ++ r) 0 = v := by
  apply BitVec.eq_of_toNat_eq
  rw [toNat_ube24]
  simp [byteAt, be24, Nat.shiftRight_eq_div_pow]
  omega

theorem ube32_be32 (v : BitVec 32) (r : Bytes) : ube32 (be32 v ++ r) 0 = v := by
  apply BitVec.eq_of_toNat_eq
  rw [toNat_ube32]
  simp [byteAt, be32, Nat.shiftRight_eq_div_pow]
  omega

theorem byteAt_append_left {s : Bytes} (e : Bytes) {i : Nat} (h : i < s.length) : byteAt (s ++ e) i = byteAt s i := by
  simp [byteAt, List.getElem?_append_left h]

theorem drop_eq_byteAt_cons {s : Bytes} {o : Nat} (h : o < s.length) : s.drop o = byteAt s o :: s.drop (o + 1) := by
  rw [List.drop_eq_getElem_cons h]
  simp [byteAt, List.getD_eq_getElem?_getD, h]

theorem length_slice {s : Bytes} {a b : Nat} (h : b ≤ s.length) : (slice s a b).length = b - a := by
  simp [slice]
  omega

/-! ### Lanes of a word -/

/-- A lane of a sum of lanes is its element. -/
theorem lane_laneSum (w : Nat) : ∀ (vs : List Nat) (i : Nat), (∀ v ∈ vs, v < 2 ^ w) →
    lane w (laneSum w vs) i = vs.getD i 0
  | [], i, _ => by simp [lane, laneSum]
  | v :: vs, 0, h => by
    have hv := h v (by simp)
    simp [lane, laneSum, Nat.add_mul_mod_self_left, Nat.mod_eq_of_lt hv]
  | v :: vs, i + 1, h => by
    have hv := h v (by simp)
    have ih := lane_laneSum w vs i fun x hx => h x (by simp [hx])
    have hd : (v + 2 ^ w * laneSum w vs) / 2 ^ (w * (i + 1)) = laneSum w vs / 2 ^ (w * i) := by
      rw [Nat.mul_add, Nat.mul_one, Nat.add_comm, Nat.pow_add, Nat.mul_comm (2 ^ (w * i)), ← Nat.div_div_eq_div_mul,
        Nat.mul_add_div (by positivity), Nat.div_eq_of_lt hv, Nat.add_zero]
    simpa [lane, laneSum, hd] using ih

theorem laneSum_lt (w : Nat) : ∀ vs : List Nat, (∀ v ∈ vs, v < 2 ^ w) → laneSum w vs < 2 ^ (w * vs.length)
  | [], _ => by simp [laneSum]
  | v :: vs, h => by
    have hv := h v (by simp)
    have ih := laneSum_lt w vs fun x hx => h x (by simp [hx])
    simp only [laneSum, List.length_cons, Nat.mul_add, Nat.mul_one, Nat.pow_add]
    rw [Nat.mul_comm (2 ^ (w * vs.length))]
    calc v + 2 ^ w * laneSum w vs < 2 ^ w + 2 ^ w * laneSum w vs := by omega
      _ = 2 ^ w * (laneSum w vs + 1) := by ring
      _ ≤ 2 ^ w * 2 ^ (w * vs.length) := Nat.mul_le_mul_left _ ih

/-- A word is the sum of its lanes. -/
theorem laneSum_lanes (w : Nat) : ∀ n W : Nat, W < 2 ^ (w * n) → laneSum w ((List.range n).map (lane w W)) = W
  | 0, W, h => by
    have : W = 0 := by simpa using h
    simp [laneSum, this]
  | n + 1, W, h => by
    have ih := laneSum_lanes w n (W / 2 ^ w) (by
      rw [Nat.div_lt_iff_lt_mul (by positivity), ← Nat.pow_add]
      simpa [Nat.mul_add] using h)
    have he : (fun i => lane w W (i + 1)) = lane w (W / 2 ^ w) := by
      funext i
      simp only [lane, Nat.div_div_eq_div_mul, ← Nat.pow_add]
      congr 3
      ring
    simp only [List.range_succ_eq_map, List.map_cons, List.map_map, laneSum, Function.comp_def, Nat.succ_eq_add_one,
      he, ih]
    simp [lane, Nat.mod_add_div]

theorem lane_testBit {w j : Nat} (W i : Nat) (h : j < w) : (lane w W i).testBit j = W.testBit (w * i + j) := by
  simp [lane, h, Nat.testBit_mod_two_pow, Nat.testBit_div_two_pow, Nat.add_comm]

@[simp] theorem length_wordBytes (W : Nat) : (wordBytes W).length = 22 := by simp [wordBytes, Config.packedLen]

/-! ### The tests -/

theorem fitsU24_iff {v : U32} : fitsU24 v = true ↔ v.toNat ≤ 0xFFFFFF :=
  ⟨fun h => of_decide_eq_true h, fun h => decide_eq_true h⟩

theorem channelsFit_iff {ch : Channels} : channelsFit ch = true ↔ ∀ i : Fin 16, ch[i].toNat ≤ 2047 := by
  rw [channelsFit, List.all_eq_true]
  constructor
  · intro h i
    exact of_decide_eq_true (h ch[i] (by simp))
  · intro h c hc
    obtain ⟨i, hi, rfl⟩ := List.getElem_of_mem hc
    have := h ⟨i, by simpa using hi⟩
    exact decide_eq_true (by simpa [Config.chMax] using this)

theorem payloadOversize_iff {pl : Bytes} : payloadOversize pl = true ↔ 60 < pl.length := by
  rw [payloadOversize, decide_eq_true_iff, Config.maxFrameSize]
  omega

theorem bodyOversize_iff {body : Bytes} : bodyOversize body = true ↔ 61 < body.length := by
  rw [bodyOversize, decide_eq_true_iff, Config.maxFrameSize]
  omega

theorem shapeOk_iff {f : Bytes} : shapeOk f = true ↔ 4 ≤ f.length ∧ (f.getD 1 0).toNat = f.length - 2 := by
  rw [shapeOk, Bool.and_eq_true, decide_eq_true_iff, decide_eq_true_iff, Config.minFrameSize]

end Sys2Proof.Machine
end

