-- ==== Sys2Proof/Laws/Codec.lean ====
section
/-! SUPPORT. The shared operations of the codec, the type-code map and the channel packer, said once each. -/

namespace Sys2Proof

/-! ### The type-code map -/

theorem packetType_mem_all (n : PacketType) : n ∈ PacketType.all := by cases n <;> decide

theorem code_injective {tc : TypeCodes} (h : tc.distinct = true) {m n : PacketType} (e : tc.code m = tc.code n) :
    m = n :=
  List.inj_on_of_nodup_map (of_decide_eq_true h) (packetType_mem_all m) (packetType_mem_all n) e

theorem code_of_lookup {tc : TypeCodes} {t : Byte} {n : PacketType} (h : tc.lookup t = some n) : tc.code n = t := by
  simpa using List.find?_some h

theorem lookup_eq_none {tc : TypeCodes} {t : Byte} : tc.lookup t = none ↔ ∀ n, tc.code n ≠ t := by
  rw [TypeCodes.lookup, List.find?_eq_none]
  exact ⟨fun h n => by simpa using h n (packetType_mem_all n), fun h n _ => by simpa using h n⟩

theorem lookup_code {tc : TypeCodes} (h : tc.distinct = true) (n : PacketType) : tc.lookup (tc.code n) = some n := by
  cases hf : tc.lookup (tc.code n) with
  | none => exact absurd rfl (lookup_eq_none.1 hf n)
  | some m => rw [code_injective h (code_of_lookup hf)]

namespace Machine

/-! ### Encode -/

theorem sealFrame_eq {a t : Byte} {pl : Bytes} (h : pl.length ≤ 60) :
    sealFrame a t pl = .ok (a :: BitVec.ofNat 8 (pl.length + 2) :: (t :: pl) ++ [crc8 (t :: pl)]) := by
  rw [sealFrame, if_neg (fun e => absurd (payloadOversize_iff.1 e) (Nat.not_lt.2 h))]

theorem sealFrame_oversize {a t : Byte} {pl : Bytes} (h : 60 < pl.length) : sealFrame a t pl = .error .oversize := by
  rw [sealFrame, if_pos (payloadOversize_iff.2 h)]

/-- All that sealing a payload can do. -/
theorem encodeWith_cases (a t : Byte) (x : Except Condition Bytes) :
    (∃ pl, x = .ok pl ∧ pl.length ≤ 60 ∧
      encodeWith a t x = .ok (.frame (a :: BitVec.ofNat 8 (pl.length + 2) :: (t :: pl) ++ [crc8 (t :: pl)]))) ∨
    (∃ pl, x = .ok pl ∧ 60 < pl.length ∧ encodeWith a t x = .error .oversize) ∨
    ∃ c, x = .error c ∧ encodeWith a t x = .error c := by
  cases x with
  | error c => exact .inr (.inr ⟨c, rfl, rfl⟩)
  | ok pl =>
    by_cases h : pl.length ≤ 60
    · exact .inl ⟨pl, rfl, h, by rw [encodeWith, sealFrame_eq h]; rfl⟩
    · exact .inr (.inl ⟨pl, rfl, by omega, by rw [encodeWith, sealFrame_oversize (by omega)]; rfl⟩)

theorem length_flatMap_be24 (vs : List U32) : (vs.flatMap be24).length = 3 * vs.length := by
  induction vs with
  | nil => rfl
  | cons v vs ih => simp [ih]; omega

theorem length_flatMap_be32 (vs : List U32) : (vs.flatMap be32).length = 4 * vs.length := by
  induction vs with
  | nil => rfl
  | cons v vs ih => simp [ih]; omega

theorem length_flatMap_be16 (vs : List U16) : (vs.flatMap be16).length = 2 * vs.length := by
  induction vs with
  | nil => rfl
  | cons v vs ih => simp [ih]; omega

/-! ### Channels -/

theorem packChannels_eq {ch : Channels} (h : ∀ i : Fin 16, ch[i].toNat ≤ 2047) :
    packChannels ch = .ok (wordBytes (channelWord ch)) := if_pos (channelsFit_iff.2 h)

theorem packChannels_range {ch : Channels} (h : ¬ ∀ i : Fin 16, ch[i].toNat ≤ 2047) :
    packChannels ch = .error .range := if_neg (fun e => h (channelsFit_iff.1 e))

theorem unpackChannels_eq {s : Bytes} (h : 22 ≤ s.length) : unpackChannels s = .ok (wordChannels (byteWord s)) :=
  if_neg (Nat.not_lt.2 h)

theorem unpackChannels_short {s : Bytes} (h : s.length < 22) : unpackChannels s = .error .short := if_pos h

/-! ### Decode -/

/-- `DEC.BODY` fails with FRAMING or not at all. -/
theorem decodeBody_error {tc : TypeCodes} {b : Bytes} {c : Condition} (h : decodeBody tc b = .error c) :
    c = .framing := by
  cases b with
  | nil => cases h; rfl
  | cons t pl =>
    simp only [decodeBody, decodePayload, decodeAttitude, decodeGps, decodeBatterySensor, decodeVario,
      decodeFlightMode, decodeBaroAlt, decodeAirspeed, decodeRpm, decodeRcChannelsPacked, decodeUnknown] at h
    repeat' split at h
    all_goals cases h
    all_goals rfl

/-- All that `DEC` can do with a frame. -/
theorem decodeFrame_cases (tc : TypeCodes) (f : Bytes) :
    (shapeOk f = true ∧ decodeFrame tc f = decodeBody tc (frameBody f)) ∨
    (shapeOk f = false ∧ decodeFrame tc f = .error .framing) := by
  cases h : shapeOk f with
  | true => exact .inl ⟨rfl, if_pos h⟩
  | false => exact .inr ⟨rfl, if_neg (by simp [h])⟩

theorem frameBody_eq_dropLast (f : Bytes) : frameBody f = (f.drop 2).dropLast := by
  rw [frameBody, slice, List.dropLast_eq_take, List.length_drop]
  congr 1

end Machine

end Sys2Proof
end

