-- ==== Sys2Proof/Laws/Crc.lean ====
section
/-! SUPPORT. The CRC byte step and its fold. -/

namespace Sys2Proof.Machine

@[simp] theorem crc8_nil : crc8 [] = 0 := rfl

/-- The fold, one byte at the end. -/
theorem crc8_concat (m : Bytes) (b : Byte) : crc8 (m ++ [b]) = crcUpdate (crc8 m) b := by
  simp [crc8]

/-- One shift is linear over GF(2). -/
theorem crcShift_xor (x y : Byte) : crcShift (x ^^^ y) = crcShift x ^^^ crcShift y := by
  unfold crcShift
  rw [BitVec.msb_xor, BitVec.shiftLeft_xor_distrib]
  cases hx : x.msb <;> cases hy : y.msb <;> simp [Config.crcPoly, BitVec.xor_assoc]
  rw [BitVec.xor_comm]

theorem crcShifts_xor (x y : Byte) : crcShifts (x ^^^ y) = crcShifts x ^^^ crcShifts y := by
  simp [crcShifts, crcShift_xor]

end Sys2Proof.Machine
end

