-- ==== Sys2Proof/Laws/State.lean ====
section
/-! SUPPORT. One lemma per field of the state and update, so that no proof unfolds a record update. -/

namespace Sys2Proof.Machine

@[simp] theorem State.respond_links (s : State) (r : Response) : (s.respond r).links = s.links := rfl
@[simp] theorem State.respond_tc (s : State) (r : Response) : (s.respond r).tc = s.tc := rfl
@[simp] theorem State.respond_requests (s : State) (r : Response) : (s.respond r).requests = s.requests := rfl
@[simp] theorem State.respond_responses (s : State) (r : Response) :
    (s.respond r).responses = s.responses ++ [r] := rfl

@[simp] theorem State.setBuf_links (s : State) (k : Nat) (B : Memory) :
    (s.setBuf k B).links = s.links.modify k fun l => { l with buf := B } := rfl
@[simp] theorem State.setBuf_tc (s : State) (k : Nat) (B : Memory) : (s.setBuf k B).tc = s.tc := rfl
@[simp] theorem State.setBuf_requests (s : State) (k : Nat) (B : Memory) : (s.setBuf k B).requests = s.requests := rfl
@[simp] theorem State.setBuf_responses (s : State) (k : Nat) (B : Memory) :
    (s.setBuf k B).responses = s.responses := rfl

@[simp] theorem Link.fresh_buf (a : Byte) : (Link.fresh a).buf = [] := rfl
@[simp] theorem Link.fresh_syncAddr (a : Byte) : (Link.fresh a).syncAddr = a := rfl

end Sys2Proof.Machine
end

