-- ==== Sys2Proof/Laws/Ops.lean ====
section
/-! SUPPORT. For each shared operation of Machine/Ops.lean, what it does, said once. -/

namespace Sys2Proof.Machine

/-! ### Answering -/

theorem finish_eq (s : State) (r : Result) : s.finish r = .next { s with responses := s.responses ++ [.done r] } := rfl

theorem raise_eq (s : State) (c : Condition) : s.raise c = .next { s with responses := s.responses ++ [.failed c] } :=
  rfl

/-- The response an outcome of a pure operation is reported as. -/
theorem answer_eq (s : State) (x : Except Condition Result) :
    s.answer x = .next { s with responses := s.responses ++ [match x with | .ok r => .done r | .error c => .failed c] } := by
  cases x <;> rfl

/-- All that answering can do: one more response, nothing else. -/
theorem answer_next {s s' : State} {x : Except Condition Result} (h : s.answer x = .next s') :
    (∃ r, x = .ok r ∧ s' = s.respond (.done r)) ∨ ∃ c, x = .error c ∧ s' = s.respond (.failed c) := by
  cases x with
  | ok r => exact .inl ⟨r, rfl, (Host.Outcome.next.inj h).symm⟩
  | error c => exact .inr ⟨c, rfl, (Host.Outcome.next.inj h).symm⟩

/-! ### Links -/

/-- With link `k` there, setting its accumulator is a `set` of the list of links. -/
theorem setBuf_eq_set {s : State} {k : Nat} {l : Link} (B : Memory) (h : s.links[k]? = some l) :
    s.setBuf k B = { s with links := s.links.set k ⟨l.syncAddr, B⟩ } := by
  rw [State.setBuf]
  congr 1
  rw [List.modify_eq_set_getElem?, h]
  rfl

/-- Setting one accumulator leaves every other link as it is. -/
theorem setBuf_link?_ne {s : State} {j k : Nat} (B : Memory) (h : j ≠ k) : (s.setBuf k B).link? j = s.link? j := by
  simp [State.link?, h.symm]

theorem setBuf_link?_self {s : State} {k : Nat} {l : Link} (B : Memory) (h : s.link? k = some l) :
    (s.setBuf k B).link? k = some ⟨l.syncAddr, B⟩ := by
  rw [State.link?] at h
  simp [State.link?, h]

theorem link?_eq_none {s : State} {k : Nat} : s.link? k = none ↔ s.links.length ≤ k := by
  simp [State.link?]

/-! ### The accumulator -/

theorem find_eq_none {B : Memory} {v : Byte} : Memory.find B v = none ↔ v ∉ B := by
  rw [Memory.find, List.findIdx?_eq_none_iff]
  constructor
  · intro h hv
    simpa using h v hv
  · intro h x hx
    have : x ≠ v := fun e => h (e ▸ hx)
    simpa using this

/-- `find` stops at the first occurrence. -/
theorem find_append {g : Memory} {v : Byte} (r : Memory) (h : v ∉ g) :
    Memory.find (g ++ v :: r) v = some g.length := by
  induction g with
  | nil => simp [Memory.find, List.findIdx?_cons]
  | cons a g ih =>
    simp only [List.mem_cons, not_or] at h
    have ha : (a == v) = false := beq_false_of_ne (Ne.symm h.1)
    have ih := ih h.2
    rw [Memory.find] at ih
    rw [Memory.find, List.cons_append, List.findIdx?_cons, ih, ha]
    rfl

theorem read_eq_none {B : Memory} {i : Nat} : Memory.read B i = none ↔ B.length ≤ i := by
  simp [Memory.read]

theorem read_append_left {B c : Memory} {i : Nat} (h : i < B.length) :
    Memory.read (B.append c) i = Memory.read B i := by
  simp [Memory.read, Memory.append, List.getElem?_append_left h]

theorem read_append_right {B c : Memory} {i : Nat} (h : B.length ≤ i) :
    Memory.read (B.append c) i = Memory.read c (i - B.length) := by
  simp [Memory.read, Memory.append, List.getElem?_append_right h]

theorem read_dropFirst (B : Memory) (n i : Nat) : Memory.read (B.dropFirst n) i = Memory.read B (n + i) := by
  simp [Memory.read, Memory.dropFirst]

theorem length_readBytes {B : Memory} {a n : Nat} (h : a + n ≤ B.length) : (B.readBytes a n).length = n := by
  simp [Memory.readBytes, slice]
  omega

/-! ### The form of a memory -/

/-- A byte string lists the addresses 0, 1, 2, …: every memory is in the canonical form, so every operation keeps it. -/
theorem memory_wf (B : Memory) : B.wf = true := by
  simp only [Memory.wf, Memory.cellsWf, Memory.cells, beq_iff_eq, List.map_map, List.length_map, List.length_zipIdx]
  apply List.ext_getElem <;> simp

theorem append_wf {B c : Memory} (_ : B.wf = true) : (B.append c).wf = true := memory_wf _
theorem dropFirst_wf {B : Memory} (n : Nat) (_ : B.wf = true) : (B.dropFirst n).wf = true := memory_wf _
theorem cleared_wf : Memory.cleared.wf = true := memory_wf _
theorem readBytes_wf {B : Memory} (a n : Nat) (_ : B.wf = true) : Memory.wf (B.readBytes a n) = true := memory_wf _

/-- Setting one accumulator keeps every accumulator in the form. -/
theorem setBuf_wf {s : State} {k : Nat} {B : Memory} (_ : ∀ l ∈ s.links, Memory.wf l.buf = true) :
    ∀ l ∈ (s.setBuf k B).links, Memory.wf l.buf = true := fun l _ => memory_wf l.buf

theorem reset_wf : ∀ l ∈ State.reset.links, Memory.wf l.buf = true := fun l _ => memory_wf l.buf

/-- Equal cells are equal memories: no cell is dropped or doubled. -/
theorem cells_injective {B C : Memory} (h : B.cells = C.cells) : B = C := by
  have := congrArg (List.map Prod.snd) h
  simpa [Memory.cells, List.map_map, Function.comp_def] using this

end Sys2Proof.Machine
end

