-- ==== Sys2Proof/Laws/PerInstr.lean ====
section
/-! SUPPORT. The statements that hold of every instruction as syntax, one lemma per constructor. -/

namespace Sys2Proof.Laws

/-- The operation select an instruction's request carries (30_encoding.md R69): an OP row's own, 0x3 (`ENC`) for an
ENC_VARIANT row, 0x8 (`DEC.BODY`) for a BODY row. -/
def EncodesItsSelect.select : Instr → Nat
  | .crc8 _ => 0
  | .chPack _ => 1
  | .chUnpack _ => 2
  | .enc _ _ => 3
  | .dec _ => 4
  | .decChk _ => 5
  | .syncPush _ _ => 6
  | .syncReset _ => 7
  | .decBody _ => 8
  | .wrap _ _ => 9
  | .encAttitude _ _ _ _ => 3
  | .encGps _ _ _ _ _ _ _ => 3
  | .encBatterySensor _ _ _ _ _ => 3
  | .encVario _ _ => 3
  | .encFlightMode _ _ => 3
  | .encBaroAlt _ _ _ => 3
  | .encAirspeed _ _ => 3
  | .encRpm _ _ _ => 3
  | .encRcChannelsPacked _ _ => 3
  | .encUnknown _ _ => 3
  | .decBodyAttitude _ => 8
  | .decBodyGps _ => 8
  | .decBodyBatterySensor _ => 8
  | .decBodyVario _ => 8
  | .decBodyFlightMode _ => 8
  | .decBodyBaroAlt _ => 8
  | .decBodyAirspeed _ => 8
  | .decBodyRpm _ => 8
  | .decBodyRcChannelsPacked _ => 8
  | .decBodyHeartbeat _ => 8
  | .decBodyTemp _ => 8
  | .decBodyVoltages _ => 8
  | .decBodyVideoTransmitter _ => 8
  | .decBodyLinkStatistics _ => 8
  | .decBodyLinkStatisticsRx _ => 8
  | .decBodyLinkStatisticsTx _ => 8
  | .decBodyDeviceInfo _ => 8
  | .decBodyConfigRead _ => 8
  | .decBodyConfigWrite _ => 8
  | .decBodyRadioId _ => 8
  | .decBodyUnknown _ _ => 8

/-- The first byte of the request of `i` has the select of `i` in its lower four bits, and in its upper four bits the
form of its row: 0 for an OP row, 1 for an ENC_VARIANT or BODY row (log entry 1). -/
def EncodesItsSelect.Statement (i : Instr) : Prop :=
  ∀ tc : TypeCodes, ∃ first operand, encode tc i = first :: operand ∧ first.toNat % 16 = EncodesItsSelect.select i ∧
    first.toNat / 16 < 2

theorem EncodesItsSelect.crc8 : ∀ s0, EncodesItsSelect.Statement (.crc8 s0) :=
  fun _ _ => ⟨_, _, rfl, rfl, by decide⟩
theorem EncodesItsSelect.chPack : ∀ ch, EncodesItsSelect.Statement (.chPack ch) :=
  fun _ _ => ⟨_, _, rfl, rfl, by decide⟩
theorem EncodesItsSelect.chUnpack : ∀ s0, EncodesItsSelect.Statement (.chUnpack s0) :=
  fun _ _ => ⟨_, _, rfl, rfl, by decide⟩
theorem EncodesItsSelect.enc : ∀ address packet, EncodesItsSelect.Statement (.enc address packet) :=
  fun _ _ _ => ⟨_, _, rfl, rfl, by decide⟩
theorem EncodesItsSelect.dec : ∀ frame, EncodesItsSelect.Statement (.dec frame) :=
  fun _ _ => ⟨_, _, rfl, rfl, by decide⟩
theorem EncodesItsSelect.decChk : ∀ frame, EncodesItsSelect.Statement (.decChk frame) :=
  fun _ _ => ⟨_, _, rfl, rfl, by decide⟩
theorem EncodesItsSelect.syncPush : ∀ link chunk, EncodesItsSelect.Statement (.syncPush link chunk) :=
  fun _ _ _ => ⟨_, _, rfl, rfl, by decide⟩
theorem EncodesItsSelect.syncReset : ∀ link, EncodesItsSelect.Statement (.syncReset link) :=
  fun _ _ => ⟨_, _, rfl, rfl, by decide⟩
theorem EncodesItsSelect.decBody : ∀ body, EncodesItsSelect.Statement (.decBody body) :=
  fun _ _ => ⟨_, _, rfl, rfl, by decide⟩
theorem EncodesItsSelect.wrap : ∀ address body, EncodesItsSelect.Statement (.wrap address body) :=
  fun _ _ _ => ⟨_, _, rfl, rfl, by decide⟩
theorem EncodesItsSelect.encAttitude : ∀ address pitch roll yaw, EncodesItsSelect.Statement (.encAttitude address pitch roll yaw) :=
  fun _ _ _ _ _ => ⟨_, _, rfl, rfl, by decide⟩
theorem EncodesItsSelect.encGps : ∀ address lat lon speed heading alt sats, EncodesItsSelect.Statement (.encGps address lat lon speed heading alt sats) :=
  fun _ _ _ _ _ _ _ _ => ⟨_, _, rfl, rfl, by decide⟩
theorem EncodesItsSelect.encBatterySensor : ∀ address voltage current capacity remaining, EncodesItsSelect.Statement (.encBatterySensor address voltage current capacity remaining) :=
  fun _ _ _ _ _ _ => ⟨_, _, rfl, rfl, by decide⟩
theorem EncodesItsSelect.encVario : ∀ address verticalSpeed, EncodesItsSelect.Statement (.encVario address verticalSpeed) :=
  fun _ _ _ => ⟨_, _, rfl, rfl, by decide⟩
theorem EncodesItsSelect.encFlightMode : ∀ address mode, EncodesItsSelect.Statement (.encFlightMode address mode) :=
  fun _ _ _ => ⟨_, _, rfl, rfl, by decide⟩
theorem EncodesItsSelect.encBaroAlt : ∀ address alt verticalSpeed, EncodesItsSelect.Statement (.encBaroAlt address alt verticalSpeed) :=
  fun _ _ _ _ => ⟨_, _, rfl, rfl, by decide⟩
theorem EncodesItsSelect.encAirspeed : ∀ address speed, EncodesItsSelect.Statement (.encAirspeed address speed) :=
  fun _ _ _ => ⟨_, _, rfl, rfl, by decide⟩
theorem EncodesItsSelect.encRpm : ∀ address sourceId values, EncodesItsSelect.Statement (.encRpm address sourceId values) :=
  fun _ _ _ _ => ⟨_, _, rfl, rfl, by decide⟩
theorem EncodesItsSelect.encRcChannelsPacked : ∀ address channels, EncodesItsSelect.Statement (.encRcChannelsPacked address channels) :=
  fun _ _ _ => ⟨_, _, rfl, rfl, by decide⟩
theorem EncodesItsSelect.encUnknown : ∀ address typeCode, EncodesItsSelect.Statement (.encUnknown address typeCode) :=
  fun _ _ _ => ⟨_, _, rfl, rfl, by decide⟩
theorem EncodesItsSelect.decBodyAttitude : ∀ payload, EncodesItsSelect.Statement (.decBodyAttitude payload) :=
  fun _ _ => ⟨_, _, rfl, rfl, by decide⟩
theorem EncodesItsSelect.decBodyGps : ∀ payload, EncodesItsSelect.Statement (.decBodyGps payload) :=
  fun _ _ => ⟨_, _, rfl, rfl, by decide⟩
theorem EncodesItsSelect.decBodyBatterySensor : ∀ payload, EncodesItsSelect.Statement (.decBodyBatterySensor payload) :=
  fun _ _ => ⟨_, _, rfl, rfl, by decide⟩
theorem EncodesItsSelect.decBodyVario : ∀ payload, EncodesItsSelect.Statement (.decBodyVario payload) :=
  fun _ _ => ⟨_, _, rfl, rfl, by decide⟩
theorem EncodesItsSelect.decBodyFlightMode : ∀ payload, EncodesItsSelect.Statement (.decBodyFlightMode payload) :=
  fun _ _ => ⟨_, _, rfl, rfl, by decide⟩
theorem EncodesItsSelect.decBodyBaroAlt : ∀ payload, EncodesItsSelect.Statement (.decBodyBaroAlt payload) :=
  fun _ _ => ⟨_, _, rfl, rfl, by decide⟩
theorem EncodesItsSelect.decBodyAirspeed : ∀ payload, EncodesItsSelect.Statement (.decBodyAirspeed payload) :=
  fun _ _ => ⟨_, _, rfl, rfl, by decide⟩
theorem EncodesItsSelect.decBodyRpm : ∀ payload, EncodesItsSelect.Statement (.decBodyRpm payload) :=
  fun _ _ => ⟨_, _, rfl, rfl, by decide⟩
theorem EncodesItsSelect.decBodyRcChannelsPacked : ∀ payload, EncodesItsSelect.Statement (.decBodyRcChannelsPacked payload) :=
  fun _ _ => ⟨_, _, rfl, rfl, by decide⟩
theorem EncodesItsSelect.decBodyHeartbeat : ∀ payload, EncodesItsSelect.Statement (.decBodyHeartbeat payload) :=
  fun _ _ => ⟨_, _, rfl, rfl, by decide⟩
theorem EncodesItsSelect.decBodyTemp : ∀ payload, EncodesItsSelect.Statement (.decBodyTemp payload) :=
  fun _ _ => ⟨_, _, rfl, rfl, by decide⟩
theorem EncodesItsSelect.decBodyVoltages : ∀ payload, EncodesItsSelect.Statement (.decBodyVoltages payload) :=
  fun _ _ => ⟨_, _, rfl, rfl, by decide⟩
theorem EncodesItsSelect.decBodyVideoTransmitter : ∀ payload, EncodesItsSelect.Statement (.decBodyVideoTransmitter payload) :=
  fun _ _ => ⟨_, _, rfl, rfl, by decide⟩
theorem EncodesItsSelect.decBodyLinkStatistics : ∀ payload, EncodesItsSelect.Statement (.decBodyLinkStatistics payload) :=
  fun _ _ => ⟨_, _, rfl, rfl, by decide⟩
theorem EncodesItsSelect.decBodyLinkStatisticsRx : ∀ payload, EncodesItsSelect.Statement (.decBodyLinkStatisticsRx payload) :=
  fun _ _ => ⟨_, _, rfl, rfl, by decide⟩
theorem EncodesItsSelect.decBodyLinkStatisticsTx : ∀ payload, EncodesItsSelect.Statement (.decBodyLinkStatisticsTx payload) :=
  fun _ _ => ⟨_, _, rfl, rfl, by decide⟩
theorem EncodesItsSelect.decBodyDeviceInfo : ∀ payload, EncodesItsSelect.Statement (.decBodyDeviceInfo payload) :=
  fun _ _ => ⟨_, _, rfl, rfl, by decide⟩
theorem EncodesItsSelect.decBodyConfigRead : ∀ payload, EncodesItsSelect.Statement (.decBodyConfigRead payload) :=
  fun _ _ => ⟨_, _, rfl, rfl, by decide⟩
theorem EncodesItsSelect.decBodyConfigWrite : ∀ payload, EncodesItsSelect.Statement (.decBodyConfigWrite payload) :=
  fun _ _ => ⟨_, _, rfl, rfl, by decide⟩
theorem EncodesItsSelect.decBodyRadioId : ∀ payload, EncodesItsSelect.Statement (.decBodyRadioId payload) :=
  fun _ _ => ⟨_, _, rfl, rfl, by decide⟩
theorem EncodesItsSelect.decBodyUnknown : ∀ typeCode payload, EncodesItsSelect.Statement (.decBodyUnknown typeCode payload) :=
  fun _ _ _ => ⟨_, _, rfl, rfl, by decide⟩

end Sys2Proof.Laws
end

