-- ==== Sys2Proof/Laws/Sync.lean ====
section
/-! SUPPORT. One pass over steps a to g of the synchronizer, one lemma per way it can go. -/

namespace Sys2Proof.Machine

theorem scanPass_no_sync {a : Byte} {B : Memory} (h : a ∉ B) : scanPass a B = .stop [] := by
  rw [scanPass, find_eq_none.2 h]
  rfl

theorem scanPass_skips_garbage {a : Byte} {g : Memory} (r : Memory) (h : a ∉ g) :
    scanPass a (g ++ a :: r) = scanCandidate (a :: r) := by
  rw [scanPass, find_append r h]
  simp [Memory.dropFirst]

theorem scanCandidate_lone (a : Byte) : scanCandidate [a] = .stop [a] := by simp [scanCandidate]

theorem scanCandidate_bad_length {a n : Byte} (r : Memory) (h : 64 < n.toNat + 2 ∨ n.toNat < 2) :
    scanCandidate (a :: n :: r) = .again none (n :: r) := by
  have hn : byteAt (a :: n :: r) 1 = n := rfl
  rw [scanCandidate, if_neg (by simp)]
  simp only [hn]
  rw [if_pos (by simpa [Config.maxFrameSize] using h)]
  rfl

theorem scanCandidate_waits {a n : Byte} {r : Memory} (h1 : 2 ≤ n.toNat) (h2 : n.toNat + 2 ≤ 64)
    (h3 : r.length < n.toNat) : scanCandidate (a :: n :: r) = .stop (a :: n :: r) := by
  have hn : byteAt (a :: n :: r) 1 = n := rfl
  rw [scanCandidate, if_neg (by simp)]
  simp only [hn, Config.maxFrameSize]
  rw [if_neg (by omega), if_pos (by simp; omega)]

/-- Every back-edge shortens the buffer (44_frame_sync.md R170). -/
theorem scanCandidate_again_shorter {B B' : Memory} {e : Option Event} (h : scanCandidate B = .again e B') :
    B'.length < B.length := by
  rw [scanCandidate] at h
  split at h
  · cases h
  · rename_i h2
    simp only at h
    split at h
    · cases h
      simp [Memory.dropFirst]
      omega
    · split at h
      · cases h
      · cases h
        simp [Memory.dropFirst]
        omega

end Sys2Proof.Machine
end

