-- ==== Sys2Proof/Tests/Slice0.lean ====
section
/-! SUPPORT. Tests on fixed values (expected results from spec/95_test_vectors.md, or written out by hand from the
encoding rules), and for every statement with hypotheses a witness that meets them all together, one per clause and at
the clause's boundary. -/

open Sys2Proof Sys2Proof.Machine Sys2Proof.Claims

namespace Sys2Proof.Tests

set_option maxRecDepth 16000

/-- The type codes of reset. -/
abbrev tc : TypeCodes := Config.defaultTypeCodes

/-- A state with two links, the first waiting with a lone sync byte. -/
def small : State := { State.reset with links := [⟨0xC8, [0xC8]⟩, ⟨0xEE, []⟩] }

/-- The state after reset with one request presented. -/
def asked (r : Bytes) : State := { State.reset with requests := [r] }

/-- What an instruction answers after reset. -/
def answer (i : Instr) : Option Response :=
  match exec i State.reset with
  | .next s => s.responses.getLast?
  | .fault _ => none
  | .refused _ => none

/-- What an instruction leaves in the first link of a state. -/
def leaves (i : Instr) (s : State) : Option Bytes :=
  match exec i s with
  | .next s' => s'.links.head?.map Link.buf
  | .fault _ => none
  | .refused _ => none

/-- What the first step answers when `r` is presented after reset. -/
def stepAnswer (r : Bytes) : Option Response :=
  match step (asked r) with
  | .next s => s.responses.getLast?
  | .fault _ => none
  | .refused _ => none

/-- What a request decodes to. -/
def decoded (r : Bytes) : Option Instr := (decode tc r).toOption

/-- Sixteen channels of one value. -/
def all (v : U16) : Channels := Vector.replicate 16 v

/-- Zeros but for the last channel. -/
def lastOnly (v : U16) : Channels := (all 0).set 15 v

/-! ### WellFormed: one ill-formed term for each check -/

theorem test_wellFormed_refuses_wide_link : (Instr.syncReset 256).wellFormed tc = false := by decide
theorem test_wellFormed_refuses_wide_link_push : (Instr.syncPush 256 []).wellFormed tc = false := by decide
theorem test_wellFormed_accepts_last_link : (Instr.syncPush 255 []).wellFormed tc = true := by decide
theorem test_wellFormed_refuses_enumerated_default_row : (Instr.decBodyUnknown 0x1E []).wellFormed tc = false := by
  decide
theorem test_wellFormed_accepts_default_row : (Instr.decBodyUnknown 0x7F []).wellFormed tc = true := by decide
theorem test_default_codes_distinct : tc.distinct = true := by decide

/-! ### Decode: a request written out for every constructor (30_encoding.md R69, R70, R55; log entry 1) -/

theorem test_decode_crc8 : decoded [0x00, 0x41] = some (.crc8 [0x41]) := by decide
theorem test_decode_chPack :
    decoded (0x01 :: List.replicate 30 0x00 ++ [0x07, 0xFF]) = some (.chPack (lastOnly 2047)) := by decide
theorem test_decode_chUnpack : decoded [0x02, 0xFF, 0x07] = some (.chUnpack [0xFF, 0x07]) := by decide
theorem test_decode_enc : decoded [0x03, 0xC8, 0x00, 0x07, 0xFF, 0xF1] = some (.enc 0xC8 (.vario 0xFFF1)) := by decide
theorem test_decode_dec : decoded [0x04, 0xC8, 0x02] = some (.dec [0xC8, 0x02]) := by decide
theorem test_decode_decChk : decoded [0x05, 0xC8, 0x02] = some (.decChk [0xC8, 0x02]) := by decide
theorem test_decode_syncPush : decoded [0x06, 0x01, 0xC8, 0x04] = some (.syncPush 1 [0xC8, 0x04]) := by decide
theorem test_decode_syncReset : decoded [0x07, 0xFF] = some (.syncReset 255) := by decide
theorem test_decode_decBody : decoded [0x08, 0x07, 0xFF, 0xF1] = some (.decBody [0x07, 0xFF, 0xF1]) := by decide
theorem test_decode_wrap : decoded [0x09, 0xEA, 0x0B] = some (.wrap 0xEA [0x0B]) := by decide
theorem test_decode_encAttitude :
    decoded [0x13, 0xC8, 0x00, 0x1E, 0x03, 0xE8, 0xF8, 0x30, 0x7A, 0xB7] = some (.encAttitude 0xC8 1000 (-2000) 31415) := by
  decide
theorem test_decode_encGps :
    decoded [0x13, 0xC8, 0x00, 0x02, 0x1F, 0x11, 0x68, 0x87, 0xFD, 0x8A, 0xCF, 0x79, 0x04, 0xD2, 0x69, 0x78, 0x04, 0x4C,
      0x0C] = some (.encGps 0xC8 521234567 (-41234567) 1234 27000 1100 12) := by decide
theorem test_decode_encBatterySensor :
    decoded [0x13, 0xC8, 0x00, 0x08, 0x00, 0xA8, 0x00, 0x7D, 0x01, 0x00, 0x05, 0xDC, 0x57] =
      some (.encBatterySensor 0xC8 168 125 0x010005DC 87) := by decide
theorem test_decode_encVario : decoded [0x13, 0xC8, 0x00, 0x07, 0xFF, 0xF1] = some (.encVario 0xC8 0xFFF1) := by decide
theorem test_decode_encFlightMode :
    decoded [0x13, 0xC8, 0x00, 0x21, 0x41, 0x43] = some (.encFlightMode 0xC8 [0x41, 0x43]) := by decide
theorem test_decode_encBaroAlt :
    decoded [0x13, 0xC8, 0x00, 0x09, 0x80, 0x01, 0x80] = some (.encBaroAlt 0xC8 0x8001 0x80) := by decide
theorem test_decode_encAirspeed : decoded [0x13, 0xC8, 0x00, 0x0A, 0x04, 0xD2] = some (.encAirspeed 0xC8 1234) := by
  decide
theorem test_decode_encRpm :
    decoded [0x13, 0xC8, 0x00, 0x0C, 0x01, 0x00, 0x00, 0x2E, 0xE0] = some (.encRpm 0xC8 1 [12000]) := by decide
theorem test_decode_encRcChannelsPacked :
    decoded (0x13 :: 0xC8 :: 0x00 :: 0x16 :: List.replicate 30 0x00 ++ [0x07, 0xFF]) =
      some (.encRcChannelsPacked 0xC8 (lastOnly 2047)) := by decide
theorem test_decode_encUnknown : decoded [0x13, 0xC8, 0x01, 0x1E] = some (.encUnknown 0xC8 0x1E) := by decide
theorem test_decode_decBodyAttitude : decoded [0x18, 0x1E, 0x03] = some (.decBodyAttitude [0x03]) := by decide
theorem test_decode_decBodyGps : decoded [0x18, 0x02, 0x03] = some (.decBodyGps [0x03]) := by decide
theorem test_decode_decBodyBatterySensor : decoded [0x18, 0x08, 0x03] = some (.decBodyBatterySensor [0x03]) := by decide
theorem test_decode_decBodyVario : decoded [0x18, 0x07, 0x03] = some (.decBodyVario [0x03]) := by decide
theorem test_decode_decBodyFlightMode : decoded [0x18, 0x21, 0x03] = some (.decBodyFlightMode [0x03]) := by decide
theorem test_decode_decBodyBaroAlt : decoded [0x18, 0x09, 0x03] = some (.decBodyBaroAlt [0x03]) := by decide
theorem test_decode_decBodyAirspeed : decoded [0x18, 0x0A, 0x03] = some (.decBodyAirspeed [0x03]) := by decide
theorem test_decode_decBodyRpm : decoded [0x18, 0x0C, 0x03] = some (.decBodyRpm [0x03]) := by decide
theorem test_decode_decBodyRcChannelsPacked : decoded [0x18, 0x16, 0x03] = some (.decBodyRcChannelsPacked [0x03]) := by
  decide
theorem test_decode_decBodyHeartbeat : decoded [0x18, 0x0B] = some (.decBodyHeartbeat []) := by decide
theorem test_decode_decBodyTemp : decoded [0x18, 0x0D] = some (.decBodyTemp []) := by decide
theorem test_decode_decBodyVoltages : decoded [0x18, 0x0E] = some (.decBodyVoltages []) := by decide
theorem test_decode_decBodyVideoTransmitter : decoded [0x18, 0x0F] = some (.decBodyVideoTransmitter []) := by decide
theorem test_decode_decBodyLinkStatistics : decoded [0x18, 0x14] = some (.decBodyLinkStatistics []) := by decide
theorem test_decode_decBodyLinkStatisticsRx : decoded [0x18, 0x1C] = some (.decBodyLinkStatisticsRx []) := by decide
theorem test_decode_decBodyLinkStatisticsTx : decoded [0x18, 0x1D] = some (.decBodyLinkStatisticsTx []) := by decide
theorem test_decode_decBodyDeviceInfo : decoded [0x18, 0x29] = some (.decBodyDeviceInfo []) := by decide
theorem test_decode_decBodyConfigRead : decoded [0x18, 0x2C] = some (.decBodyConfigRead []) := by decide
theorem test_decode_decBodyConfigWrite : decoded [0x18, 0x2D] = some (.decBodyConfigWrite []) := by decide
theorem test_decode_decBodyRadioId : decoded [0x18, 0x3A] = some (.decBodyRadioId []) := by decide
theorem test_decode_decBodyUnknown : decoded [0x18, 0x7F, 0x03] = some (.decBodyUnknown 0x7F [0x03]) := by decide
theorem test_decode_rejects_unassigned : decoded [0x0A] = none ∧ decoded [0x0F] = none := by decide
theorem test_decode_rejects_forms : decoded [0x12] = none ∧ decoded [0x28, 0x07] = none ∧ decoded [] = none := by decide
theorem test_decode_rejects_short_operand : decoded [0x03, 0xC8, 0x00, 0x07, 0xFF] = none := by decide
theorem test_decode_rejects_unhandled_code : decoded [0x03, 0xC8, 0x00, 0x0B] = none := by decide
theorem test_table_word_op : decodeTableWord 8 0x07 = some (.syncReset 0) := by decide
theorem test_table_word_body : decodeTableWord 8 0x0B = some (.decBodyHeartbeat (List.replicate 22 0)) := by decide
theorem test_table_word_runs : (match step (State.reset.withFetchWord 8 0x0B) with
    | .next s => s.responses | .fault _ => [] | .refused _ => []) = [.done (.packet (.unknown 0x0B))] := by decide

/-! ### U1 and U2 (95_test_vectors.md sections 2 and 3) -/

theorem test_crc8_vario_body : answer (.crc8 [0x07, 0xFF, 0xF1]) = some (.done (.checksum 0x0A)) := by decide
theorem test_crc8_top_bit : answer (.crc8 [0x80]) = some (.done (.checksum 0xEF)) := by decide
theorem test_chPack_channel_1 : answer (.chPack ((all 0).set 1 2047)) =
    some (.done (.packed ([0x00, 0xF8, 0x3F] ++ List.replicate 19 0x00))) := by decide
theorem test_chPack_last_lane : answer (.chPack (lastOnly 2047)) =
    some (.done (.packed (List.replicate 20 0x00 ++ [0xE0, 0xFF]))) := by decide
theorem test_chUnpack_ignores_excess : answer (.chUnpack (List.replicate 22 0xFF ++ [0xAA, 0xBB])) =
    some (.done (.channels (all 2047))) := by decide
theorem test_chUnpack_short : answer (.chUnpack (List.replicate 21 0x00)) = some (.failed .short) := by decide

/-! ### U3, encode (section 4) -/

theorem test_enc_vario : answer (.enc 0xC8 (.vario (-15))) =
    some (.done (.frame [0xC8, 0x04, 0x07, 0xFF, 0xF1, 0x0A])) := by decide
theorem test_enc_range_before_oversize : answer (.enc 0xC8 (.rpm 0 (0x1000000 :: List.replicate 19 0))) =
    some (.failed .range) := by decide
theorem test_encAttitude : answer (.encAttitude 0xC8 1000 (-2000) 31415) =
    some (.done (.frame [0xC8, 0x08, 0x1E, 0x03, 0xE8, 0xF8, 0x30, 0x7A, 0xB7, 0xD1])) := by decide
theorem test_encGps : answer (.encGps 0xC8 521234567 (-41234567) 1234 27000 1100 12) =
    some (.done (.frame ([0xC8, 0x11, 0x02, 0x1F, 0x11, 0x68, 0x87, 0xFD, 0x8A, 0xCF, 0x79] ++
      [0x04, 0xD2, 0x69, 0x78, 0x04, 0x4C, 0x0C, 0xE5]))) := by decide
theorem test_encBatterySensor : answer (.encBatterySensor 0xC8 168 125 1500 87) =
    some (.done (.frame [0xC8, 0x0A, 0x08, 0x00, 0xA8, 0x00, 0x7D, 0x00, 0x05, 0xDC, 0x57, 0xB2])) := by decide
theorem test_encBatterySensor_range : answer (.encBatterySensor 0xC8 0 0 16777216 0) = some (.failed .range) := by decide
theorem test_encVario_least : answer (.encVario 0xC8 (-32768)) =
    some (.done (.frame [0xC8, 0x04, 0x07, 0x80, 0x00, 0x88])) := by decide
theorem test_encFlightMode : answer (.encFlightMode 0xC8 [0x41, 0x43, 0x52, 0x4F]) =
    some (.done (.frame [0xC8, 0x07, 0x21, 0x41, 0x43, 0x52, 0x4F, 0x00, 0x80])) := by decide
theorem test_encFlightMode_oversize : answer (.encFlightMode 0xC8 (List.replicate 60 0x41)) =
    some (.failed .oversize) := by decide
theorem test_encBaroAlt : answer (.encBaroAlt 0xC8 0x8001 128) =
    some (.done (.frame [0xC8, 0x05, 0x09, 0x80, 0x01, 0x80, 0x3E])) := by decide
theorem test_encAirspeed : answer (.encAirspeed 0xC8 1234) =
    some (.done (.frame [0xC8, 0x04, 0x0A, 0x04, 0xD2, 0x46])) := by decide
theorem test_encRpm : answer (.encRpm 0xC8 2 [0, 0xFFFFFF, 0x010203]) =
    some (.done (.frame [0xC8, 0x0C, 0x0C, 0x02, 0x00, 0x00, 0x00, 0xFF, 0xFF, 0xFF, 0x01, 0x02, 0x03, 0xF7])) := by
  decide
theorem test_encRpm_oversize : answer (.encRpm 0xC8 0 (List.replicate 20 0)) = some (.failed .oversize) := by decide
theorem test_encRcChannelsPacked : answer (.encRcChannelsPacked 0xC8 (all 0)) =
    some (.done (.frame ([0xC8, 0x18, 0x16] ++ List.replicate 22 0x00 ++ [0xEF]))) := by decide
theorem test_encRcChannelsPacked_range : answer (.encRcChannelsPacked 0xC8 (lastOnly 65535)) = some (.failed .range) := by
  decide
theorem test_encUnknown : answer (.encUnknown 0xC8 0x1E) = some (.failed .unknownVariant) := by decide
theorem test_wrap_minimal : answer (.wrap 0xC8 [0x0B]) = some (.done (.frame [0xC8, 0x02, 0x0B, 0x83])) := by decide
theorem test_wrap_oversize : answer (.wrap 0xC8 (List.replicate 62 0x7F)) = some (.failed .oversize) := by decide

/-! ### U3, decode (section 5) -/

theorem test_decChk_excess : answer (.decChk [0xC8, 0x09, 0x1E, 0x03, 0xE8, 0xF8, 0x30, 0x7A, 0xB7, 0x99, 0xB4]) =
    some (.done (.packet (.attitude 1000 (-2000) 31415))) := by decide
theorem test_decChk_crc : answer (.decChk [0xC8, 0x04, 0x07, 0xFF, 0xF1, 0x0B]) = some (.failed .crc) := by decide
theorem test_dec_ignores_crc : answer (.dec [0xC8, 0x04, 0x07, 0xFF, 0xF1, 0x0B]) =
    some (.done (.packet (.vario (-15)))) := by decide
theorem test_dec_short : answer (.dec [0xC8, 0x01, 0x07]) = some (.failed .framing) := by decide
theorem test_decBody_dispatch : answer (.decBody [0x0C, 0x05, 0x00, 0x2E, 0xE0, 0x01]) =
    some (.done (.packet (.rpm 5 [12000]))) := by decide
theorem test_decBody_empty : answer (.decBody []) = some (.failed .framing) := by decide
theorem test_decBodyAttitude_short : answer (.decBodyAttitude [0x01, 0x02, 0x03, 0x04, 0x05]) = some (.failed .framing) := by
  decide
theorem test_decBodyGps :
    answer (.decBodyGps ([0x1F, 0x11, 0x68, 0x87, 0xFD, 0x8A, 0xCF, 0x79, 0x04, 0xD2, 0x69, 0x78, 0x04, 0x4C, 0x0C])) =
      some (.done (.packet (.gps 521234567 (-41234567) 1234 27000 1100 12))) := by decide
theorem test_decBodyBatterySensor : answer (.decBodyBatterySensor [0x00, 0xA8, 0x00, 0x7D, 0xFF, 0xFF, 0xFF, 0x57]) =
    some (.done (.packet (.batterySensor 168 125 16777215 87))) := by decide
theorem test_decBodyVario : answer (.decBodyVario [0x80, 0x00]) = some (.done (.packet (.vario (-32768)))) := by decide
theorem test_decBodyFlightMode : answer (.decBodyFlightMode [0x41, 0x00, 0x42, 0x00]) =
    some (.done (.packet (.flightMode [0x41]))) := by decide
theorem test_decBodyFlightMode_no_terminator : answer (.decBodyFlightMode [0x41, 0x43]) = some (.failed .framing) := by
  decide
theorem test_decBodyBaroAlt : answer (.decBodyBaroAlt [0x80, 0x01, 0x80]) =
    some (.done (.packet (.baroAlt 0x8001 128))) := by decide
theorem test_decBodyAirspeed : answer (.decBodyAirspeed [0x04, 0xD2]) = some (.done (.packet (.airspeed 1234))) := by
  decide
theorem test_decBodyRpm : answer (.decBodyRpm [0x05, 0x00, 0x2E, 0xE0, 0x01, 0x02, 0x03]) =
    some (.done (.packet (.rpm 5 [12000, 0x010203]))) := by decide
theorem test_decBodyRcChannelsPacked : answer (.decBodyRcChannelsPacked (List.replicate 22 0xFF)) =
    some (.done (.packet (.rcChannelsPacked (all 2047)))) := by decide
theorem test_decBodyRcChannelsPacked_short : answer (.decBodyRcChannelsPacked (List.replicate 21 0x00)) =
    some (.failed .framing) := by decide
theorem test_decBodyHeartbeat : answer (.decBodyHeartbeat [0x00, 0xC8]) = some (.done (.packet (.unknown 0x0B))) := by
  decide
theorem test_decBodyTemp : answer (.decBodyTemp []) = some (.done (.packet (.unknown 0x0D))) := by decide
theorem test_decBodyVoltages : answer (.decBodyVoltages []) = some (.done (.packet (.unknown 0x0E))) := by decide
theorem test_decBodyVideoTransmitter : answer (.decBodyVideoTransmitter []) = some (.done (.packet (.unknown 0x0F))) := by
  decide
theorem test_decBodyLinkStatistics : answer (.decBodyLinkStatistics [0x01]) = some (.done (.packet (.unknown 0x14))) := by
  decide
theorem test_decBodyLinkStatisticsRx : answer (.decBodyLinkStatisticsRx []) = some (.done (.packet (.unknown 0x1C))) := by
  decide
theorem test_decBodyLinkStatisticsTx : answer (.decBodyLinkStatisticsTx []) = some (.done (.packet (.unknown 0x1D))) := by
  decide
theorem test_decBodyDeviceInfo : answer (.decBodyDeviceInfo []) = some (.done (.packet (.unknown 0x29))) := by decide
theorem test_decBodyConfigRead : answer (.decBodyConfigRead []) = some (.done (.packet (.unknown 0x2C))) := by decide
theorem test_decBodyConfigWrite : answer (.decBodyConfigWrite []) = some (.done (.packet (.unknown 0x2D))) := by decide
theorem test_decBodyRadioId : answer (.decBodyRadioId [0x10, 0x00]) = some (.done (.packet (.unknown 0x3A))) := by decide
theorem test_decBodyUnknown : answer (.decBodyUnknown 0xFF []) = some (.done (.packet (.unknown 0xFF))) := by decide

/-! ### U4 (sections 1 and 6) -/

theorem test_syncPush_crc_error : answer (.syncPush 0 [0xC8, 0x04, 0x07, 0xFF, 0xF1, 0x0B]) =
    some (.done (.events [.crcError])) := by decide
theorem test_syncPush_oversize_then_frame :
    answer (.syncPush 0 [0x11, 0xC8, 0x3F, 0xC8, 0x04, 0x07, 0xFF, 0xF1, 0x0A]) =
      some (.done (.events [.valid [0x07, 0xFF, 0xF1]])) := by decide
theorem test_syncReset_empties : leaves (.syncReset 0) small = some [] := by decide
theorem test_syncReset_no_result : answer (.syncReset 0) = some (.done .nothing) := by decide

/-! ### The step -/

theorem test_step_runs_request : stepAnswer [0x09, 0xC8, 0x0B] = some (.done (.frame [0xC8, 0x02, 0x0B, 0x83])) := by
  decide
theorem test_step_refuses_unassigned : stepAnswer [0x0A] = none := by decide

/-! ### Witnesses: for each statement with hypotheses, operands that meet them, one per clause, at its boundary -/

/-- A byte string of zeros. -/
def zeros (n : Nat) : Bytes := List.replicate n 0x00

/-- The longest body that fits a frame. -/
def body61 : Bytes := 0x7F :: zeros 60

theorem test_witness_ChPackPlacesEveryBit : InRange (all 2047) := by unfold InRange; decide
theorem test_witness_ChPackFailsOnAnyLaneOutOfRange : ∃ i : Fin 16, 2047 < (lastOnly 2048)[i].toNat := by decide
theorem test_witness_ChUnpackReadsEveryBit : 22 ≤ (zeros 22).length ∧ (zeros 21).length < 22 := by decide
theorem test_witness_ChannelUnpackInvertsPack : InRange (lastOnly 2047) := by unfold InRange; decide
theorem test_witness_ChannelPackInvertsUnpack : 22 ≤ (zeros 22).length := by decide
theorem test_witness_EncBatteryRefusesWideCapacity :
    (0xFFFFFF : U32).toNat ≤ 0xFFFFFF ∧ 0xFFFFFF < (0x1000000 : U32).toNat := by decide
theorem test_witness_EncFlightModeCopiesUpTo59Bytes : (zeros 59).length ≤ 59 ∧ 59 < (zeros 60).length := by decide
theorem test_witness_EncRpmSendsUpTo19Values :
    (∃ v ∈ [(0 : U32), 0x1000000], 0xFFFFFF < v.toNat) ∧
    (∀ v ∈ List.replicate 19 (0xFFFFFF : U32), v.toNat ≤ 0xFFFFFF) ∧ (List.replicate 19 (0xFFFFFF : U32)).length ≤ 19 ∧
    (∀ v ∈ List.replicate 20 (0xFFFFFF : U32), v.toNat ≤ 0xFFFFFF) ∧ 19 < (List.replicate 20 (0xFFFFFF : U32)).length := by
  simp
theorem test_witness_EncRcChannelsCarriesThePackedBuffer :
    InRange (all 2047) ∧ ∃ i : Fin 16, 2047 < (lastOnly 2048)[i].toNat := by unfold InRange; decide
theorem test_witness_EncAnswersFrameOrListedFailure :
    PacketVariant.encFailure (.unknown 0x1E) = some .unknownVariant ∧
    PacketVariant.encFailure (.batterySensor 0 0 0x1000000 0) = some .range ∧
    PacketVariant.encFailure (.flightMode (zeros 60)) = some .oversize ∧
    PacketVariant.encFailure (.flightMode (zeros 59)) = none := by decide
theorem test_witness_EncEqualsWrapOfItsBody :
    AnswersFrame (.enc 0xC8 (.vario (-15))) State.reset [0xC8, 0x04, 0x07, 0xFF, 0xF1, 0x0A] := rfl
theorem test_witness_WrapAnswersTheFrameOfItsBody :
    ([] : Bytes).length = 0 ∧ (1 ≤ [(0x0B : Byte)].length ∧ [(0x0B : Byte)].length ≤ 61) ∧
    (1 ≤ body61.length ∧ body61.length ≤ 61) ∧ 62 ≤ (body61 ++ [0x00]).length := by decide
theorem test_witness_DecBodySignedTypesReadTheirFields : (zeros 5).length < 6 ∧ (zeros 1).length < 2 := by decide
theorem test_witness_DecBodyGpsReadsItsFields : (zeros 14).length < 15 := by decide
theorem test_witness_DecBodyUnsignedTypesReadTheirFields :
    (zeros 7).length < 8 ∧ (zeros 2).length < 3 ∧ (zeros 1).length < 2 := by decide
theorem test_witness_DecBodyFlightModeStopsAtTheTerminator :
    (0x00 : Byte) ∉ ([] : Bytes) ∧ (0x00 : Byte) ∉ [(0x41 : Byte), 0xFF] := by decide
theorem test_witness_DecBodyRpmReadsWholeGroups : (zeros 2).length < 3 ∧ (zeros 0).length < 3 := by decide
theorem test_witness_DecBodyRcChannelsIsUnpack : 22 ≤ (zeros 22).length ∧ (zeros 21).length < 22 := by decide
theorem test_witness_DecBodyUnknownTypesPassThrough :
    (0x0B : Byte) ∉ [tc.attitude, tc.gps, tc.batterySensor, tc.vario, tc.flightMode, tc.baroAlt, tc.airspeed, tc.rpm,
      tc.rcChannelsPacked] ∧ (Instr.decBodyUnknown 0x00 []).wellFormed State.reset.tc = true := by decide
theorem test_witness_DecBodyDispatchesOnTheTypeByte :
    State.reset.tc.distinct = true ∧ ∀ n ∈ PacketType.all, State.reset.tc.code n ≠ 0x7F := by decide
theorem test_witness_DecBodyDispatchesOnTheTypeByte_default : ∀ n, State.reset.tc.code n ≠ 0x7F := by
  intro n
  cases n <;> decide
theorem test_witness_WellShapedFramesDecode :
    State.reset.tc.distinct = true ∧ PayloadFits .attitude (zeros 6) ∧ PayloadFits .gps (zeros 15) ∧
    PayloadFits .batterySensor (zeros 8) ∧ PayloadFits .vario (zeros 2) ∧ PayloadFits .flightMode (zeros 1) ∧
    PayloadFits .baroAlt (zeros 3) ∧ PayloadFits .airspeed (zeros 2) ∧ PayloadFits .rpm (zeros 1) ∧
    PayloadFits .rcChannelsPacked (zeros 22) ∧ PayloadFits .heartbeat (zeros 253) ∧ (zeros 253).length ≤ 253 := by
  simp only [PayloadFits]
  decide
theorem test_witness_DecIsShapeCheckThenBody :
    [(0xC8 : Byte), 0x01, 0x07].length < 4 ∧
    ([(0xC8 : Byte), 0x03, 0x07, 0x54][1]? = some 0x03 ∧ (0x03 : Byte).toNat ≠ [(0xC8 : Byte), 0x03, 0x07, 0x54].length - 2) ∧
    ([(0xC8 : Byte), 0x02, 0x07, 0x54][1]? = some 0x02 ∧ 4 ≤ [(0xC8 : Byte), 0x02, 0x07, 0x54].length ∧
      (0x02 : Byte).toNat = [(0xC8 : Byte), 0x02, 0x07, 0x54].length - 2) := by decide
theorem test_witness_DecChkTestsTheCrcFirst :
    (zeros 3).length < 4 ∧
    (4 ≤ [(0xC8 : Byte), 0x02, 0x0B, 0x82].length ∧
      [(0xC8 : Byte), 0x02, 0x0B, 0x82].getLast? ≠ some (crc8 (bodyOf [0xC8, 0x02, 0x0B, 0x82]))) ∧
    (4 ≤ [(0xC8 : Byte), 0x02, 0x0B, 0x83].length ∧
      [(0xC8 : Byte), 0x02, 0x0B, 0x83].getLast? = some (crc8 (bodyOf [0xC8, 0x02, 0x0B, 0x83]))) := by decide
theorem test_witness_DecIgnoresAddressAndCrc :
    (1 ≤ (zeros 1).length ∧ (zeros 1).length ≤ 254) ∧ 1 ≤ (zeros 254).length ∧ (zeros 254).length ≤ 254 := by decide
theorem test_witness_ExcessPayloadIsIgnored :
    6 ≤ (zeros 6).length ∧ 15 ≤ (zeros 15).length ∧ 8 ≤ (zeros 8).length ∧ 2 ≤ (zeros 2).length ∧
    (0x00 : Byte) ∈ zeros 1 ∧ 3 ≤ (zeros 3).length ∧ 22 ≤ (zeros 22).length := by decide
theorem test_witness_CodecRoundTrip :
    small.tc.distinct = true ∧ PacketVariant.roundTrips (.flightMode [0x41]) ∧ PacketVariant.roundTrips (.rpm 1 [12000]) ∧
    State.reset.tc = small.tc := by
  refine ⟨by decide, ⟨by decide, ?_⟩, ⟨by simp [PacketVariant.encFailure], ?_⟩, rfl⟩
  · intro mode h
    cases h
    decide
  · intro mode h
    cases h
theorem test_witness_SyncPushRunsTheScan : small.links[0]? = some ⟨0xC8, [0xC8]⟩ := by decide
theorem test_witness_ScanEndsWithinItsBound : (zeros 3).length + 1 ≤ 4 := by decide
theorem test_witness_PushLeavesTheLinkAtRest : small.links[0]? = some ⟨0xC8, [0xC8]⟩ := by decide
theorem test_witness_ChunkingDoesNotMatter : small.links[0]? = some ⟨0xC8, [0xC8]⟩ := by decide
theorem test_witness_NoSyncByteClearsEverything :
    small.links[1]? = some ⟨0xEE, []⟩ ∧ (0xEE : Byte) ∉ ([] : Bytes) ++ [0x11, 0xC8] := by decide
theorem test_witness_LeadingGarbageIsDropped :
    small.links[1]? = some ⟨0xEE, []⟩ ∧ (0xEE : Byte) ∉ [(0x11 : Byte)] ∧
    ([] : Bytes) ++ [0x11, 0xEE, 0x04] = [0x11] ++ 0xEE :: [0x04] := by decide
theorem test_witness_OversizeLengthSkipsOneByte :
    small.links[0]? = some ⟨0xC8, [0xC8]⟩ ∧ (0xC8 : Byte) ∉ ([] : Bytes) ∧
    [(0xC8 : Byte)] ++ [0x3F, 0xC8] = [] ++ 0xC8 :: 0x3F :: [0xC8] ∧ 64 < (0x3F : Byte).toNat + 2 := by decide
theorem test_witness_UndersizeLengthSkipsOneByte :
    small.links[0]? = some ⟨0xC8, [0xC8]⟩ ∧ (0xC8 : Byte) ∉ ([] : Bytes) ∧
    [(0xC8 : Byte)] ++ [0x01, 0xC8] = [] ++ 0xC8 :: 0x01 :: [0xC8] ∧ (0x01 : Byte).toNat < 2 := by decide
theorem test_witness_PartialFrameWaits :
    small.links[0]? = some ⟨0xC8, [0xC8]⟩ ∧ (0xC8 : Byte) ∉ ([] : Bytes) ∧
    [(0xC8 : Byte)] ++ [] = [] ++ [0xC8] ∧
    ([(0xC8 : Byte)] ++ [0x02, 0x0B] = [] ++ 0xC8 :: 0x02 :: [0x0B] ∧ 2 ≤ (0x02 : Byte).toNat ∧
      (0x02 : Byte).toNat + 2 ≤ 64 ∧ [(0x0B : Byte)].length < (0x02 : Byte).toNat) ∧
    ([(0xC8 : Byte)] ++ 0x3E :: zeros 61 = [] ++ 0xC8 :: 0x3E :: zeros 61 ∧ (0x3E : Byte).toNat + 2 ≤ 64 ∧
      (zeros 61).length < (0x3E : Byte).toNat) := by decide
theorem test_witness_CompleteCandidateGivesOneEvent :
    small.links[0]? = some ⟨0xC8, [0xC8]⟩ ∧ (0xC8 : Byte) ∉ ([] : Bytes) ∧
    [(0xC8 : Byte)] ++ [0x02, 0x0B, 0x83] = [] ++ 0xC8 :: 0x02 :: [0x0B] ++ 0x83 :: [] ∧ 2 ≤ (0x02 : Byte).toNat ∧
    (0x02 : Byte).toNat + 2 ≤ 64 ∧ [(0x0B : Byte)].length + 1 = (0x02 : Byte).toNat ∧ crc8 [0x0B] = 0x83 ∧
    crc8 [0x0B] ≠ 0x82 := by decide
theorem test_witness_BuiltFrameIsReceivedOnce :
    small.links[1]? = some ⟨0xEE, []⟩ ∧ (Link.mk 0xEE []).buf = [] ∧
    AnswersFrame (.wrap 0xEE [0x0B]) small [0xEE, 0x02, 0x0B, 0x83] ∧
    AnswersFrame (.enc 0xEE (.vario (-15))) small [0xEE, 0x04, 0x07, 0xFF, 0xF1, 0x0A] := ⟨by decide, rfl, rfl, rfl⟩
theorem test_witness_SyncResetEmptiesTheLink : small.links[0]? = some ⟨0xC8, [0xC8]⟩ := by decide
theorem test_witness_MissingLinkIsRefused : small.links.length ≤ 2 := by decide
theorem test_witness_OnlyTheSynchronizerChangesAccumulators :
    exec (.syncReset 0) small = .next { small with links := [⟨0xC8, []⟩, ⟨0xEE, []⟩], responses := [.done .nothing] } ∧
    (Instr.syncReset 0).linkOf ≠ some 1 := ⟨rfl, by decide⟩
theorem test_witness_LinksAreIndependent :
    0 ≠ 1 ∧ small.links[0]? = some ⟨0xC8, [0xC8]⟩ ∧ small.links[1]? = some ⟨0xEE, []⟩ := by decide
theorem test_witness_PureOperationsAnswerFromTheirOperand :
    (Instr.crc8 [0x41]).linkOf = none ∧ small.tc = State.reset.tc := by decide
theorem test_witness_NoOperationTraps :
    ∀ k, (Instr.syncReset 1).linkOf = some k → k < small.links.length := by
  intro k h
  cases h
  decide
theorem test_witness_OnlyListedCausesAreReported :
    exec (.dec []) small = .next { small with responses := [.failed .framing] } ∧
    ({ small with responses := [.failed .framing] } : State).responses.getLast? = some (.failed .framing) :=
  ⟨rfl, by decide⟩
theorem test_witness_EveryStepKeepsTheInvariant :
    State.Inv { small with requests := [[0x07, 0x00]] } ∧
    step { small with requests := [[0x07, 0x00]] } =
      .next { small with links := [⟨0xC8, []⟩, ⟨0xEE, []⟩], responses := [.done .nothing] } :=
  ⟨⟨by decide, by decide⟩, rfl⟩
theorem test_witness_StepRunsTheDecodedInstruction :
    (asked [0x00, 0x41]).requests = [[0x00, 0x41]] ∧ decode (asked [0x00, 0x41]).tc [0x00, 0x41] = .ok (.crc8 [0x41]) :=
  ⟨by decide, rfl⟩
theorem test_witness_StepRefusesUndecodableRequests :
    State.reset.requests = [] ∧
    ((asked []).requests = [[]] ∧ decode (asked []).tc [] = .error .emptyRequest) ∧
    (10 ≤ (10 : BitVec 4).toNat ∧ (asked [0x0A]).requests = ((10 : BitVec 4).setWidth 8 :: []) :: []) ∧
    (10 ≤ (15 : BitVec 4).toNat ∧ (asked [0x0F]).requests = ((15 : BitVec 4).setWidth 8 :: []) :: []) :=
  ⟨rfl, ⟨rfl, rfl⟩, by decide, by decide⟩
theorem test_witness_DecodeInvertsEncode :
    tc.distinct = true ∧ (Instr.syncPush 255 [0xC8]).wellFormed tc = true ∧
    (Instr.decBodyUnknown 0x7F []).wellFormed tc = true := by decide
theorem test_witness_DecoderAcceptsOnlyEncodings : decode tc [0x06, 0xFF, 0xC8] = .ok (.syncPush 255 [0xC8]) := rfl

end Sys2Proof.Tests
end

section
/-! PROOFS. The CRC-8 generator (40_crc8.md): the printed table of R83 is the byte step, and the check value of R84. -/

open Sys2Proof.Machine Sys2Proof.Claims

namespace Sys2Proof.Proofs

/-! ### The printed table -/

theorem length_crcTable : crcTable.length = 256 := by
  simp only [crcTable, List.length_append, List.length_cons, List.length_nil]

/-- The printed values against R81: the entry at `x` is `x` after the eight shifts. The one finite check; all else about
the table goes through this equation. -/
theorem crcTable_getD (x : Byte) : crcTable.getD x.toNat 0 = crcShifts x := by
  revert x
  decide

/-- The table is linear because the eight shifts are. -/
theorem crcTable_getD_xor (x y : Byte) :
    crcTable.getD (x ^^^ y).toNat 0 = crcTable.getD x.toNat 0 ^^^ crcTable.getD y.toNat 0 := by
  simp only [crcTable_getD, crcShifts_xor]

/-- The register enters the byte step only through its XOR with the byte, so the step is one look-up. -/
theorem crcUpdate_eq_crcTable_getD (c b : Byte) : crcUpdate c b = crcTable.getD (c ^^^ b).toNat 0 :=
  (crcTable_getD (c ^^^ b)).symm

theorem crc8_eq_foldl_crcTable (m : Bytes) :
    crc8 m = m.foldl (fun c b => crcTable.getD (c ^^^ b).toNat 0) 0x00 :=
  List.foldl_ext _ _ Config.crcInit fun c b _ => crcUpdate_eq_crcTable_getD c b

/-- Settles O3: the byte step is one look-up in the printed table, and the other clauses follow from that equation. -/
theorem crc8IsTheTableFold : Obligations.Crc8IsTheTableFold :=
  ⟨length_crcTable, crcUpdate_eq_crcTable_getD, crcTable_getD_xor, crc8_eq_foldl_crcTable⟩

/-! ### The operation and its check value -/

/-- `CRC8` answers the CRC of its operand in every state and changes nothing else (R82). -/
theorem exec_crc8 (m : Bytes) (s : State) : Answers (.crc8 m) s (.done (.checksum (crc8 m))) := rfl

/-- The nine bytes of "123456789" (R84). -/
def checkMessage : Bytes := [0x31, 0x32, 0x33, 0x34, 0x35, 0x36, 0x37, 0x38, 0x39]

/-- The register after each byte of the check message. -/
theorem crc8_take_checkMessage :
    (List.range 9).map (fun k => crc8 (checkMessage.take (k + 1))) =
      [0x23, 0x87, 0xE7, 0x8A, 0x64, 0xB0, 0xBB, 0x45, 0xBC] := by decide

/-- The check value is the last of these registers. -/
theorem crc8_checkMessage : crc8 checkMessage = 0xBC :=
  Option.some.inj (congrArg List.getLast? crc8_take_checkMessage)

/-- The register after each shift of the check message's first byte. -/
theorem crcShift_iterate_first :
    (List.range 8).map (fun k => (crcShift^[k + 1]) 0x31) =
      [0x62, 0xC4, 0x5D, 0xBA, 0xA1, 0x97, 0xFB, 0x23] := by decide

/-- Settles O2: the registers of R84 are evaluated, and `CRC8` answers the last of them in every state. -/
theorem crc8GivesTheCheckValue : Obligations.Crc8GivesTheCheckValue := by
  refine ⟨crc8_checkMessage, crc8_take_checkMessage, crcShift_iterate_first, fun s => ?_⟩
  have answers := exec_crc8 checkMessage s
  rwa [crc8_checkMessage] at answers

end Sys2Proof.Proofs
end

section
/-! PROOFS. The channel packer (41_channel_packer.md): packing followed by unpacking is the identity on vectors in range
(R94), because both operations carry the same 176-bit word; and one channel out of range fails the whole (R96). -/

open Sys2Proof.Machine Sys2Proof.Claims

namespace Sys2Proof.Proofs

/-! ### The two operations, run -/

/-- `CH.PACK` reports what `packChannels` gives, in every state (R91). -/
theorem exec_chPack (ch : Channels) (s : State) :
    exec (.chPack ch) s = s.answer ((packChannels ch).map .packed) := rfl

/-- `CH.UNPACK` reports what `unpackChannels` gives, in every state (R93). -/
theorem exec_chUnpack (b : Bytes) (s : State) :
    exec (.chUnpack b) s = s.answer ((unpackChannels b).map .channels) := rfl

theorem chPack_answers_packed {ch : Channels} {out : Bytes} (h : packChannels ch = .ok out) (s : State) :
    Answers (.chPack ch) s (.done (.packed out)) := by
  rw [Answers, exec_chPack, h]
  exact finish_eq s (.packed out)

theorem chPack_answers_failed {ch : Channels} {c : Condition} (h : packChannels ch = .error c) (s : State) :
    Answers (.chPack ch) s (.failed c) := by
  rw [Answers, exec_chPack, h]
  exact raise_eq s c

theorem chUnpack_answers_channels {b : Bytes} {ch : Channels} (h : unpackChannels b = .ok ch) (s : State) :
    Answers (.chUnpack b) s (.done (.channels ch)) := by
  rw [Answers, exec_chUnpack, h]
  exact finish_eq s (.channels ch)

/-! ### The word between them -/

/-- Channels in range are lanes that fit their eleven bits. -/
theorem channels_lt_of_inRange {ch : Channels} (h : InRange ch) : ∀ v ∈ ch.toList.map BitVec.toNat, v < 2 ^ 11 := by
  intro v hv
  obtain ⟨c, hc, rfl⟩ := List.mem_map.1 hv
  obtain ⟨i, hi, rfl⟩ := List.getElem_of_mem hc
  have hle := h ⟨i, by simpa using hi⟩
  exact Nat.lt_succ_of_le (by simpa using hle)

/-- Sixteen lanes of eleven bits make a word of 176. -/
theorem channelWord_lt {ch : Channels} (h : InRange ch) : channelWord ch < 2 ^ 176 := by
  have hlt := laneSum_lt 11 _ (channels_lt_of_inRange h)
  simpa [channelWord, Config.chBits] using hlt

/-- Lane `i` of the channels' word is channel `i`. -/
theorem lane_channelWord {ch : Channels} (h : InRange ch) (i : Fin 16) :
    lane 11 (channelWord ch) i = ch[i].toNat := by
  have hlane := lane_laneSum 11 _ i (channels_lt_of_inRange h)
  simpa [channelWord, Config.chBits, List.getD_eq_getElem?_getD] using hlane

/-- Reading the lanes of the channels' word gives the channels back. -/
theorem wordChannels_channelWord {ch : Channels} (h : InRange ch) : wordChannels (channelWord ch) = ch := by
  apply Vector.ext
  intro i hi
  have hlane := lane_channelWord h ⟨i, hi⟩
  simp only [wordChannels, Config.chBits, Vector.getElem_ofFn]
  rw [hlane]
  exact (BitVec.ofNat_toNat 16 ch[i]).trans (BitVec.setWidth_eq ch[i])

/-- Reading the 22 bytes of a 176-bit word gives the word back. -/
theorem byteWord_wordBytes {W : Nat} (h : W < 2 ^ 176) : byteWord (wordBytes W) = W := by
  have hbytes : ((wordBytes W).take 22).map BitVec.toNat = (List.range 22).map (lane 8 W) := by
    rw [List.take_of_length_le (by simp), wordBytes, List.map_map]
    refine List.map_congr_left fun k _ => ?_
    simp [lane]
  rw [byteWord, Config.packedLen, hbytes]
  exact laneSum_lanes 8 22 W h

/-- R94 of the two functions: the bytes carry the word and the word carries the channels. -/
theorem unpackChannels_wordBytes_channelWord {ch : Channels} (h : InRange ch) :
    unpackChannels (wordBytes (channelWord ch)) = .ok ch := by
  have hlen : 22 ≤ (wordBytes (channelWord ch)).length := by simp
  rw [unpackChannels_eq hlen, byteWord_wordBytes (channelWord_lt h), wordChannels_channelWord h]

/-! ### The statements -/

/-- Settles O8: the packed bytes are those of the channels' word, and unpacking them reads that word's lanes. -/
theorem channelUnpackInvertsPack : Obligations.ChannelUnpackInvertsPack := fun ch s h =>
  ⟨wordBytes (channelWord ch), chPack_answers_packed (packChannels_eq h) s,
    chUnpack_answers_channels (unpackChannels_wordBytes_channelWord h)⟩

/-- Settles O6: a channel above 2047, in whichever lane, falsifies the range test of all sixteen. -/
theorem chPackFailsOnAnyLaneOutOfRange : Obligations.ChPackFailsOnAnyLaneOutOfRange := by
  rintro ch s ⟨i, hi⟩
  have hout : ¬ InRange ch := fun h => Nat.not_lt.2 (h i) hi
  exact chPack_answers_failed (packChannels_range hout) s

end Sys2Proof.Proofs
end

section
/-! PROOFS. The codec's encode side (42_codec_encode.md): one rule for an `ENC` whose payload is there and one for an
`ENC` whose payload fails (R100), and with them BatterySensor (R105), RcChannelsPacked (R111) and Unknown (R112). -/

open Sys2Proof.Machine Sys2Proof.Claims

namespace Sys2Proof.Proofs

/-! ### Fields as the bytes of their numbers -/

/-- Eight bits of a word at a byte boundary are that byte of its number. -/
theorem extractLsb'_eq_byteOf {w : Nat} (v : BitVec w) (k : Nat) : v.extractLsb' (8 * k) 8 = byteOf v.toNat k := by
  rw [BitVec.extractLsb', Nat.shiftRight_eq_div_pow, Nat.pow_mul]
  rfl

theorem be16_eq_bytes2 (v : U16) : be16 v = bytes2 v.toNat := by
  rw [bytes2, ← extractLsb'_eq_byteOf, ← extractLsb'_eq_byteOf]
  rfl

/-- The three bytes written are the lower three of the number, whatever the fourth. -/
theorem be24_eq_bytes3 (v : U32) : be24 v = bytes3 v.toNat := by
  rw [bytes3, ← extractLsb'_eq_byteOf, ← extractLsb'_eq_byteOf, ← extractLsb'_eq_byteOf]
  rfl

/-! ### Frames -/

theorem length_frameOf (a : Byte) (body : Bytes) : (frameOf a body).length = body.length + 3 := by simp [frameOf]

theorem frameOf_lengthByte (a : Byte) (body : Bytes) : (frameOf a body)[1]? = some (BitVec.ofNat 8 (body.length + 1)) :=
  rfl

/-! ### Sealing a payload -/

/-- A payload of at most 60 bytes is sealed into the frame of its body (R100, R102). -/
theorem encodeWith_ok {a t : Byte} {pl : Bytes} (h : pl.length ≤ 60) :
    encodeWith a t (.ok pl) = .ok (.frame (frameOf a (t :: pl))) := by
  rw [encodeWith, sealFrame_eq h]
  rfl

/-- An `ENC` whose payload is there and fits answers the frame of its body. -/
theorem answersFrame_of_payload {i : Instr} {s : State} {a t : Byte} {x : Except Condition Bytes} {pl : Bytes}
    (hexec : exec i s = s.answer (encodeWith a t x)) (hx : x = .ok pl) (hlen : pl.length ≤ 60) :
    AnswersFrame i s (frameOf a (t :: pl)) := by
  rw [AnswersFrame, Answers, hexec, hx, encodeWith_ok hlen]
  exact finish_eq s _

/-- An `ENC` whose payload fails reports that failure: the size test is not reached (60_exceptions.md R200). -/
theorem answers_failed_of_payload {i : Instr} {s : State} {a t : Byte} {x : Except Condition Bytes} {c : Condition}
    (hexec : exec i s = s.answer (encodeWith a t x)) (hx : x = .error c) : Answers i s (.failed c) := by
  rw [Answers, hexec, hx]
  exact raise_eq s c

/-! ### BatterySensor -/

theorem exec_encBatterySensor (a : Byte) (voltage current : U16) (capacity : U32) (remaining : Byte) (s : State) :
    exec (.encBatterySensor a voltage current capacity remaining) s =
      s.answer (encodeWith a s.tc.batterySensor (payloadBatterySensor voltage current capacity remaining)) := rfl

/-- A capacity of 24 bits is written, with the other fields, as the bytes of its number (R105). -/
theorem payloadBatterySensor_eq (voltage current : U16) {capacity : U32} (remaining : Byte)
    (h : capacity.toNat ≤ 0xFFFFFF) :
    payloadBatterySensor voltage current capacity remaining =
      .ok (bytes2 voltage.toNat ++ bytes2 current.toNat ++ bytes3 capacity.toNat ++ [remaining]) := by
  rw [payloadBatterySensor, if_pos (fitsU24_iff.2 h), be16_eq_bytes2, be16_eq_bytes2, be24_eq_bytes3]

theorem payloadBatterySensor_range (voltage current : U16) {capacity : U32} (remaining : Byte)
    (h : 0xFFFFFF < capacity.toNat) : payloadBatterySensor voltage current capacity remaining = .error .range :=
  if_neg fun fits => Nat.not_lt.2 (fitsU24_iff.1 fits) h

/-- Settles O13: eight bytes of payload always fit a frame, so only the capacity decides. -/
theorem encBatteryRefusesWideCapacity : Obligations.EncBatteryRefusesWideCapacity := by
  intro a voltage current capacity remaining s
  have hexec := exec_encBatterySensor a voltage current capacity remaining s
  constructor
  · intro fits
    have hlen : (bytes2 voltage.toNat ++ bytes2 current.toNat ++ bytes3 capacity.toNat ++ [remaining]).length ≤ 60 := by
      simp [bytes2, bytes3]
    exact answersFrame_of_payload hexec (payloadBatterySensor_eq voltage current remaining fits) hlen
  · intro wide
    exact answers_failed_of_payload hexec (payloadBatterySensor_range voltage current remaining wide)

/-! ### RcChannelsPacked -/

/-- The payload is what `CH.PACK` gives, failure included (R111). -/
theorem exec_encRcChannelsPacked (a : Byte) (ch : Channels) (s : State) :
    exec (.encRcChannelsPacked a ch) s = s.answer (encodeWith a s.tc.rcChannelsPacked (packChannels ch)) := rfl

theorem not_inRange_of_lane {ch : Channels} (h : ∃ i : Fin 16, 2047 < ch[i].toNat) : ¬ InRange ch := by
  obtain ⟨i, hi⟩ := h
  exact fun fits => Nat.not_lt.2 (fits i) hi

/-- Settles O16: `CH.PACK` and the payload are one function, and its 22 bytes make a frame of 26. -/
theorem encRcChannelsCarriesThePackedBuffer : Obligations.EncRcChannelsCarriesThePackedBuffer := by
  intro a ch s
  have hexec := exec_encRcChannelsPacked a ch s
  constructor
  · intro fits
    have hpack := packChannels_eq fits
    have hlen : (wordBytes (channelWord ch)).length = 22 := length_wordBytes _
    refine ⟨wordBytes (channelWord ch), chPack_answers_packed hpack s,
      answersFrame_of_payload hexec hpack (by omega), ?_, ?_⟩
    · rw [length_frameOf, List.length_cons, hlen]
    · rw [frameOf_lengthByte, List.length_cons, hlen]
      rfl
  · intro wide
    exact answers_failed_of_payload hexec (packChannels_range (not_inRange_of_lane wide))

/-! ### Unknown -/

/-- The ENC_VARIANT row of Unknown raises, whatever its operands (R112). -/
theorem exec_encUnknown (a t : Byte) (s : State) : exec (.encUnknown a t) s = s.raise .unknownVariant := rfl

/-- `ENC` of Unknown does what its row does: the type code is not looked at (R112). -/
theorem exec_enc_unknown (a t : Byte) (s : State) : exec (.enc a (.unknown t)) s = exec (.encUnknown a t) s := rfl

/-- Settles O17: `ENC` runs the row of Unknown, and the row raises. -/
theorem encUnknownAlwaysFails : Obligations.EncUnknownAlwaysFails := by
  intro a t s
  have row : Answers (.encUnknown a t) s (.failed .unknownVariant) :=
    (exec_encUnknown a t s).trans (raise_eq s .unknownVariant)
  exact ⟨row, (exec_enc_unknown a t s).trans row⟩

end Sys2Proof.Proofs
end

section
/-! PROOFS. The codec's decode side (43_codec_decode.md): the dispatch on the type byte (R131, R142), what the three
decoders can answer (R146), `DEC` as the shape check before `DEC.BODY` (R130), and the frame a decoder takes apart. -/

open Sys2Proof.Machine Sys2Proof.Claims

namespace Sys2Proof.Proofs

/-! ### The decoders, run -/

theorem exec_decBody (b : Bytes) (s : State) : exec (.decBody b) s = s.answerPacket (decodeBody s.tc b) := rfl

theorem exec_dec (f : Bytes) (s : State) : exec (.dec f) s = s.answerPacket (decodeFrame s.tc f) := rfl

theorem exec_decChk (f : Bytes) (s : State) : exec (.decChk f) s = s.answerPacket (decodeChecked s.tc f) := rfl

theorem answersPacket_of_ok {i : Instr} {s : State} {x : Except Condition PacketVariant} {p : PacketVariant}
    (hexec : exec i s = s.answerPacket x) (hx : x = .ok p) : AnswersPacket i s p := by
  rw [AnswersPacket, Answers, hexec, hx]
  exact finish_eq s _

theorem answers_failed_of_error {i : Instr} {s : State} {x : Except Condition PacketVariant} {c : Condition}
    (hexec : exec i s = s.answerPacket x) (hx : x = .error c) : Answers i s (.failed c) := by
  rw [Answers, hexec, hx]
  exact raise_eq s c

/-! ### The dispatch on the type byte -/

theorem code_eq_iff {tc : TypeCodes} (h : tc.distinct = true) (m n : PacketType) : tc.code m = tc.code n ↔ m = n :=
  ⟨code_injective h, congrArg tc.code⟩

/-- The decode rule of a name: R133 to R141 for the nine handled ones, R142 for the others. -/
def decodeNamed (tc : TypeCodes) (n : PacketType) (pl : Bytes) : Except Condition PacketVariant :=
  match n with
  | .attitude => decodeAttitude pl
  | .gps => decodeGps pl
  | .batterySensor => decodeBatterySensor pl
  | .vario => decodeVario pl
  | .flightMode => decodeFlightMode pl
  | .baroAlt => decodeBaroAlt pl
  | .airspeed => decodeAirspeed pl
  | .rpm => decodeRpm pl
  | .rcChannelsPacked => decodeRcChannelsPacked pl
  | n => decodeUnknown (tc.code n)

/-- With distinct codes, the code of a name selects the rule of that name and of no other (R131). -/
theorem decodePayload_code {tc : TypeCodes} (h : tc.distinct = true) (n : PacketType) (pl : Bytes) :
    decodePayload tc (tc.code n) pl = decodeNamed tc n pl := by
  have attitude : tc.code n = tc.attitude ↔ n = .attitude := code_eq_iff h n .attitude
  have gps : tc.code n = tc.gps ↔ n = .gps := code_eq_iff h n .gps
  have batterySensor : tc.code n = tc.batterySensor ↔ n = .batterySensor := code_eq_iff h n .batterySensor
  have vario : tc.code n = tc.vario ↔ n = .vario := code_eq_iff h n .vario
  have flightMode : tc.code n = tc.flightMode ↔ n = .flightMode := code_eq_iff h n .flightMode
  have baroAlt : tc.code n = tc.baroAlt ↔ n = .baroAlt := code_eq_iff h n .baroAlt
  have airspeed : tc.code n = tc.airspeed ↔ n = .airspeed := code_eq_iff h n .airspeed
  have rpm : tc.code n = tc.rpm ↔ n = .rpm := code_eq_iff h n .rpm
  have rcChannelsPacked : tc.code n = tc.rcChannelsPacked ↔ n = .rcChannelsPacked := code_eq_iff h n .rcChannelsPacked
  simp only [decodePayload, attitude, gps, batterySensor, vario, flightMode, baroAlt, airspeed, rpm, rcChannelsPacked]
  cases n <;> rfl

/-- A type byte that is none of the nine handled codes falls through every test (R142). -/
theorem decodePayload_unhandled {tc : TypeCodes} {t : Byte} (pl : Bytes)
    (h : t ∉ [tc.attitude, tc.gps, tc.batterySensor, tc.vario, tc.flightMode, tc.baroAlt, tc.airspeed, tc.rpm,
      tc.rcChannelsPacked]) : decodePayload tc t pl = decodeUnknown t := by
  simp only [List.mem_cons, List.not_mem_nil, or_false, not_or] at h
  obtain ⟨attitude, gps, batterySensor, vario, flightMode, baroAlt, airspeed, rpm, rcChannelsPacked⟩ := h
  rw [decodePayload, if_neg attitude, if_neg gps, if_neg batterySensor, if_neg vario, if_neg flightMode,
    if_neg baroAlt, if_neg airspeed, if_neg rpm, if_neg rcChannelsPacked]

/-- A row that decodes to Unknown answers it, whatever the payload. -/
theorem answersPacket_unknown {i : Instr} {s : State} {t : Byte} (hexec : exec i s = s.answerPacket (decodeUnknown t)) :
    AnswersPacket i s (.unknown t) := answersPacket_of_ok hexec rfl

/-- Settles O27: `DEC.BODY` falls through to the default rule, and every other row is that rule. -/
theorem decBodyUnknownTypesPassThrough : Obligations.DecBodyUnknownTypesPassThrough := by
  intro pl s
  refine ⟨fun t ht => answersPacket_of_ok (exec_decBody (t :: pl) s) (decodePayload_unhandled pl ht), ?_⟩
  exact ⟨answersPacket_unknown rfl, answersPacket_unknown rfl, answersPacket_unknown rfl,
    answersPacket_unknown rfl, answersPacket_unknown rfl, answersPacket_unknown rfl, answersPacket_unknown rfl,
    answersPacket_unknown rfl, answersPacket_unknown rfl, answersPacket_unknown rfl, answersPacket_unknown rfl,
    fun _ _ => answersPacket_unknown rfl⟩

/-! ### All that the decoders can answer -/

theorem decodeBody_cases (tc : TypeCodes) (b : Bytes) :
    (∃ p, decodeBody tc b = .ok p) ∨ decodeBody tc b = .error .framing := by
  cases h : decodeBody tc b with
  | ok p => exact .inl ⟨p, rfl⟩
  | error c => exact .inr (congrArg _ (decodeBody_error h))

/-- The shape check adds no other failure than `DEC.BODY`'s own. -/
theorem decodeFrame_answers (tc : TypeCodes) (f : Bytes) :
    (∃ p, decodeFrame tc f = .ok p) ∨ decodeFrame tc f = .error .framing := by
  obtain ⟨-, toBody⟩ | ⟨-, framing⟩ := decodeFrame_cases tc f
  · rw [toBody]
    exact decodeBody_cases tc (frameBody f)
  · exact .inr framing

/-- All that `DEC.CHK` can do with a frame (R132). -/
theorem decodeChecked_cases (tc : TypeCodes) (f : Bytes) :
    (f.length < 4 ∧ decodeChecked tc f = .error .framing) ∨
    (4 ≤ f.length ∧ crc8 (frameBody f) ≠ byteAt f (f.length - 1) ∧ decodeChecked tc f = .error .crc) ∨
    (4 ≤ f.length ∧ crc8 (frameBody f) = byteAt f (f.length - 1) ∧ decodeChecked tc f = decodeFrame tc f) := by
  rw [decodeChecked, Config.minFrameSize]
  split
  · exact .inl ⟨‹_›, rfl⟩
  · split
    · exact .inr (.inl ⟨Nat.not_lt.1 ‹_›, ‹_›, rfl⟩)
    · exact .inr (.inr ⟨Nat.not_lt.1 ‹_›, not_not.1 ‹_›, rfl⟩)

/-- An outcome that is a variant or FRAMING is answered as one. -/
theorem answers_of_cases {i : Instr} {s : State} {x : Except Condition PacketVariant}
    (hexec : exec i s = s.answerPacket x) (hx : (∃ p, x = .ok p) ∨ x = .error .framing) :
    (∃ p, AnswersPacket i s p) ∨ Answers i s (.failed .framing) :=
  hx.imp (fun ⟨p, hp⟩ => ⟨p, answersPacket_of_ok hexec hp⟩) (answers_failed_of_error hexec)

/-- Settles O29: only the CRC test of `DEC.CHK` adds an outcome to those of `DEC.BODY`. -/
theorem decodersAlwaysAnswer : Obligations.DecodersAlwaysAnswer := by
  intro b s
  refine ⟨answers_of_cases (exec_decBody b s) (decodeBody_cases s.tc b),
    answers_of_cases (exec_dec b s) (decodeFrame_answers s.tc b), ?_⟩
  have hexec := exec_decChk b s
  obtain ⟨-, framing⟩ | ⟨-, -, crc⟩ | ⟨-, -, toFrame⟩ := decodeChecked_cases s.tc b
  · exact .inr (.inl (answers_failed_of_error hexec framing))
  · exact .inr (.inr (answers_failed_of_error hexec crc))
  · rw [toFrame] at hexec
    exact (answers_of_cases hexec (decodeFrame_answers s.tc b)).imp_right .inl

/-! ### The shape check -/

/-- The shape check of a frame whose length byte is known (R130). -/
theorem shapeOk_iff_of_lengthByte {f : Bytes} {n : Byte} (hn : f[1]? = some n) :
    shapeOk f = true ↔ 4 ≤ f.length ∧ n.toNat = f.length - 2 := by
  rw [shapeOk_iff, List.getD_eq_getElem?_getD, hn, Option.getD_some]

theorem decodeFrame_wellShaped {tc : TypeCodes} {f : Bytes} (h : shapeOk f = true) :
    decodeFrame tc f = decodeBody tc (bodyOf f) := by
  rw [decodeFrame, if_pos h, frameBody_eq_dropLast, bodyOf]

theorem dec_answers_framing {f : Bytes} (h : ¬ shapeOk f = true) (s : State) : Answers (.dec f) s (.failed .framing) :=
  answers_failed_of_error (exec_dec f s) (if_neg h)

/-- Settles O31: both FRAMING clauses fail the shape check, and the third passes it. -/
theorem decIsShapeCheckThenBody : Obligations.DecIsShapeCheckThenBody := by
  intro f s
  refine ⟨fun short => ?_, fun n hn wrong => ?_, fun n hn long right => ?_⟩
  · exact dec_answers_framing (fun ok => Nat.not_lt.2 (shapeOk_iff.1 ok).1 short) s
  · exact dec_answers_framing (fun ok => wrong ((shapeOk_iff_of_lengthByte hn).1 ok).2) s
  · rw [exec_dec, decodeFrame_wellShaped ((shapeOk_iff_of_lengthByte hn).2 ⟨long, right⟩), exec_decBody]

/-! ### Taking a built frame apart -/

theorem bodyOf_frameOf (a : Byte) (body : Bytes) : bodyOf (frameOf a body) = body := by
  simp [bodyOf, frameOf]

/-- A length byte can declare a body of up to 254 bytes, and a frame of it is well shaped. -/
theorem shapeOk_frameOf (a : Byte) {body : Bytes} (h1 : 1 ≤ body.length) (h254 : body.length ≤ 254) :
    shapeOk (frameOf a body) = true := by
  rw [shapeOk_iff_of_lengthByte (frameOf_lengthByte a body), length_frameOf, BitVec.toNat_ofNat]
  omega

theorem byteAt_frameOf_last (a : Byte) (body : Bytes) :
    byteAt (frameOf a body) ((frameOf a body).length - 1) = crc8 body := by
  rw [length_frameOf]
  simp [byteAt, frameOf]

theorem decodeFrame_frameOf (tc : TypeCodes) (a : Byte) {body : Bytes} (h1 : 1 ≤ body.length)
    (h254 : body.length ≤ 254) : decodeFrame tc (frameOf a body) = decodeBody tc body := by
  rw [decodeFrame_wellShaped (shapeOk_frameOf a h1 h254), bodyOf_frameOf]

/-- The last byte of a built frame is the CRC of its body, so `DEC.CHK` goes on to `DEC`. -/
theorem decodeChecked_frameOf (tc : TypeCodes) (a : Byte) {body : Bytes} (h1 : 1 ≤ body.length) :
    decodeChecked tc (frameOf a body) = decodeFrame tc (frameOf a body) := by
  have hbody : frameBody (frameOf a body) = body := (frameBody_eq_dropLast _).trans (bodyOf_frameOf a body)
  obtain ⟨short, -⟩ | ⟨-, wrong, -⟩ | ⟨-, -, toFrame⟩ := decodeChecked_cases tc (frameOf a body)
  · rw [length_frameOf] at short
    omega
  · exact absurd (by rw [hbody, byteAt_frameOf_last]) wrong
  · exact toFrame

end Sys2Proof.Proofs
end

section
/-! PROOFS. The codec's round trip (43_codec_decode.md R147): each decode rule inverts the payload of its type, by
reading every field where the payload wrote it; the frame around it is taken apart by the facts of the decode side. -/

open Sys2Proof.Machine Sys2Proof.Claims

namespace Sys2Proof.Proofs

/-! ### Reading a field where it was written -/

theorem byteAt_drop (b : Bytes) (o k : Nat) : byteAt (b.drop o) k = byteAt b (o + k) := by
  simp [byteAt]

theorem byteAt_of_drop {b r : Bytes} {o : Nat} {v : Byte} (h : b.drop o = v :: r) : byteAt b o = v := by
  rw [← Nat.add_zero o, ← byteAt_drop, h]
  rfl

theorem ube16_of_drop {b r : Bytes} {o : Nat} {v : U16} (h : b.drop o = be16 v ++ r) : ube16 b o = v := by
  rw [← ube16_be16 v r, ← h]
  simp only [ube16, byteAt_drop, Nat.zero_add, Nat.add_zero]

theorem ube24_of_drop {b r : Bytes} {o : Nat} {v : U32} (h : b.drop o = be24 v ++ r) (fits : v.toNat ≤ 0xFFFFFF) :
    ube24 b o = v := by
  rw [← ube24_be24 r fits, ← h]
  simp only [ube24, byteAt_drop, Nat.zero_add, Nat.add_zero]

theorem ube32_of_drop {b r : Bytes} {o : Nat} {v : U32} (h : b.drop o = be32 v ++ r) : ube32 b o = v := by
  rw [← ube32_be32 v r, ← h]
  simp only [ube32, byteAt_drop, Nat.zero_add, Nat.add_zero]

/-! ### Each rule inverts its payload -/

theorem decodeAttitude_payload (pitch roll yaw : I16) :
    decodeAttitude (be16 pitch ++ be16 roll ++ be16 yaw) = .ok (.attitude pitch roll yaw) := by
  rw [decodeAttitude, if_neg (by simp), Except.ok.injEq, PacketVariant.attitude.injEq]
  exact ⟨ube16_of_drop rfl, ube16_of_drop rfl, ube16_of_drop rfl⟩

theorem decodeGps_payload (lat lon : I32) (speed heading alt : U16) (sats : Byte) :
    decodeGps (be32 lat ++ be32 lon ++ be16 speed ++ be16 heading ++ be16 alt ++ [sats]) =
      .ok (.gps lat lon speed heading alt sats) := by
  rw [decodeGps, if_neg (by simp), Except.ok.injEq, PacketVariant.gps.injEq]
  exact ⟨ube32_of_drop rfl, ube32_of_drop rfl, ube16_of_drop rfl, ube16_of_drop rfl, ube16_of_drop rfl,
    byteAt_of_drop rfl⟩

theorem decodeBatterySensor_payload (voltage current : U16) {capacity : U32} (remaining : Byte)
    (fits : capacity.toNat ≤ 0xFFFFFF) :
    decodeBatterySensor (be16 voltage ++ be16 current ++ be24 capacity ++ [remaining]) =
      .ok (.batterySensor voltage current capacity remaining) := by
  rw [decodeBatterySensor, if_neg (by simp), Except.ok.injEq, PacketVariant.batterySensor.injEq]
  exact ⟨ube16_of_drop rfl, ube16_of_drop rfl, ube24_of_drop rfl fits, byteAt_of_drop rfl⟩

theorem decodeVario_payload (verticalSpeed : I16) : decodeVario (be16 verticalSpeed) = .ok (.vario verticalSpeed) := by
  rw [decodeVario, if_neg (by simp), Except.ok.injEq, PacketVariant.vario.injEq]
  exact ube16_of_drop rfl

/-- The terminator is the first 0x00 because the mode has none. -/
theorem decodeFlightMode_payload {mode : Bytes} (h : 0x00 ∉ mode) :
    decodeFlightMode (mode ++ [0x00]) = .ok (.flightMode mode) := by
  have terminator : ((mode ++ [0x00]).findIdx? fun b => b == 0x00) = some mode.length := find_append [] h
  rw [decodeFlightMode, terminator]
  simp [slice]

theorem decodeBaroAlt_payload (alt : U16) (verticalSpeed : Byte) :
    decodeBaroAlt (be16 alt ++ [verticalSpeed]) = .ok (.baroAlt alt verticalSpeed) := by
  rw [decodeBaroAlt, if_neg (by simp), Except.ok.injEq, PacketVariant.baroAlt.injEq]
  exact ⟨ube16_of_drop rfl, byteAt_of_drop rfl⟩

theorem decodeAirspeed_payload (speed : U16) : decodeAirspeed (be16 speed) = .ok (.airspeed speed) := by
  rw [decodeAirspeed, if_neg (by simp), Except.ok.injEq, PacketVariant.airspeed.injEq]
  exact ube16_of_drop rfl

/-- Skipping whole groups of three skips that many values. -/
theorem drop_flatMap_be24 (vs : List U32) : ∀ i : Nat, (vs.flatMap be24).drop (3 * i) = (vs.drop i).flatMap be24 := by
  induction vs with
  | nil => simp
  | cons v vs ih =>
    intro i
    cases i with
    | zero => rfl
    | succ i => exact ih i

/-- Group `i` after the source id holds value `i`. -/
theorem ube24_rpmPayload (sourceId : Byte) {values : List U32} (fits : ∀ v ∈ values, v.toNat ≤ 0xFFFFFF) {i : Nat}
    (hi : i < values.length) : ube24 (sourceId :: values.flatMap be24) (1 + 3 * i) = values[i] := by
  refine ube24_of_drop (r := (values.drop (i + 1)).flatMap be24) ?_ (fits _ (List.getElem_mem hi))
  rw [Nat.add_comm, List.drop_succ_cons, drop_flatMap_be24, List.drop_eq_getElem_cons hi, List.flatMap_cons]

theorem decodeRpm_payload (sourceId : Byte) {values : List U32} (fits : ∀ v ∈ values, v.toNat ≤ 0xFFFFFF) :
    decodeRpm (sourceId :: values.flatMap be24) = .ok (.rpm sourceId values) := by
  have count : ((sourceId :: values.flatMap be24).length - 1) / 3 = values.length := by
    rw [List.length_cons, length_flatMap_be24]
    omega
  rw [decodeRpm, if_neg (by simp), count, Except.ok.injEq, PacketVariant.rpm.injEq]
  refine ⟨rfl, List.ext_getElem (by simp) fun i _ hi => ?_⟩
  simpa using ube24_rpmPayload sourceId fits hi

theorem decodeRcChannelsPacked_payload {ch : Channels} (h : InRange ch) :
    decodeRcChannelsPacked (wordBytes (channelWord ch)) = .ok (.rcChannelsPacked ch) := by
  rw [decodeRcChannelsPacked, unpackChannels_wordBytes_channelWord h]

/-! ### The payload of a variant -/

/-- The payload `ENC` seals for a variant (R103 to R111), Unknown's failure included (R112). -/
def payloadOf : PacketVariant → Except Condition Bytes
  | .attitude pitch roll yaw => payloadAttitude pitch roll yaw
  | .gps lat lon speed heading alt sats => payloadGps lat lon speed heading alt sats
  | .batterySensor voltage current capacity remaining => payloadBatterySensor voltage current capacity remaining
  | .vario verticalSpeed => payloadVario verticalSpeed
  | .flightMode mode => payloadFlightMode mode
  | .baroAlt alt verticalSpeed => payloadBaroAlt alt verticalSpeed
  | .airspeed speed => payloadAirspeed speed
  | .rpm sourceId values => payloadRpm sourceId values
  | .rcChannelsPacked channels => payloadRcChannelsPacked channels
  | .unknown _ => .error .unknownVariant

/-- `ENC` seals the payload of its variant under the variant's code (R100). -/
theorem exec_enc (a : Byte) (p : PacketVariant) (s : State) :
    exec (.enc a p) s = s.answer (encodeWith a (p.codeByte s.tc) (payloadOf p)) := by
  cases p <;> rfl

theorem codeByte_of_packetType (tc : TypeCodes) {p : PacketVariant} {n : PacketType} (h : p.packetType = some n) :
    p.codeByte tc = tc.code n := by
  cases p <;> cases h <;> rfl

/-- The rpm values of a variant `ENC` accepts: 24 bits each, at most nineteen (R110). -/
theorem rpm_fits {sourceId : Byte} {values : List U32} (h : (PacketVariant.rpm sourceId values).encFailure = none) :
    (∀ v ∈ values, v.toNat ≤ 0xFFFFFF) ∧ values.length ≤ 19 := by
  rw [PacketVariant.encFailure] at h
  split at h
  · cases h
  next noWide =>
    split at h
    · cases h
    next notMany =>
      exact ⟨fun v hv => Nat.not_lt.1 fun wide => noWide ⟨v, hv, wide⟩, Nat.not_lt.1 notMany⟩

/-- A variant of the round trip has a payload of at most 60 bytes, and the rule of its name inverts it (R147). -/
theorem exists_payload {p : PacketVariant} (h : p.roundTrips) : ∃ n pl, p.packetType = some n ∧
    payloadOf p = .ok pl ∧ pl.length ≤ 60 ∧ ∀ tc, decodeNamed tc n pl = .ok p := by
  obtain ⟨accepted, noZero⟩ := h
  cases p with
  | attitude pitch roll yaw =>
    exact ⟨.attitude, _, rfl, rfl, by simp, fun _ => decodeAttitude_payload pitch roll yaw⟩
  | gps lat lon speed heading alt sats =>
    exact ⟨.gps, _, rfl, rfl, by simp, fun _ => decodeGps_payload lat lon speed heading alt sats⟩
  | batterySensor voltage current capacity remaining =>
    have fits : capacity.toNat ≤ 0xFFFFFF := by simpa [PacketVariant.encFailure] using accepted
    exact ⟨.batterySensor, _, rfl, if_pos (fitsU24_iff.2 fits), by simp,
      fun _ => decodeBatterySensor_payload voltage current remaining fits⟩
  | vario verticalSpeed => exact ⟨.vario, _, rfl, rfl, by simp, fun _ => decodeVario_payload verticalSpeed⟩
  | flightMode mode =>
    have short : mode.length ≤ 59 := by simpa [PacketVariant.encFailure] using accepted
    exact ⟨.flightMode, _, rfl, rfl, by simp; omega, fun _ => decodeFlightMode_payload (noZero mode rfl)⟩
  | baroAlt alt verticalSpeed =>
    exact ⟨.baroAlt, _, rfl, rfl, by simp, fun _ => decodeBaroAlt_payload alt verticalSpeed⟩
  | airspeed speed => exact ⟨.airspeed, _, rfl, rfl, by simp, fun _ => decodeAirspeed_payload speed⟩
  | rpm sourceId values =>
    obtain ⟨fits, few⟩ := rpm_fits accepted
    have sealable : payloadRpm sourceId values = .ok (sourceId :: values.flatMap be24) :=
      if_pos (List.all_eq_true.2 fun v hv => fitsU24_iff.2 (fits v hv))
    refine ⟨.rpm, _, rfl, sealable, ?_, fun _ => decodeRpm_payload sourceId fits⟩
    rw [List.length_cons, length_flatMap_be24]
    omega
  | rcChannelsPacked channels =>
    have fits : InRange channels := fun i => by
      have inRange : ∀ c ∈ channels.toList, c.toNat ≤ 2047 := by simpa [PacketVariant.encFailure] using accepted
      exact inRange _ (by simp)
    exact ⟨.rcChannelsPacked, _, rfl, packChannels_eq fits, by simp, fun _ => decodeRcChannelsPacked_payload fits⟩
  | unknown typeCode => cases accepted

/-- Settles O35: the frame `ENC` answers carries the variant's code and payload, every decoder comes down to the body of
that frame, and the rule the code selects inverts the payload. -/
theorem codecRoundTrip : Obligations.CodecRoundTrip := by
  intro a p s distinct hp
  obtain ⟨n, pl, name, payload, short, inverts⟩ := exists_payload hp
  refine ⟨frameOf a (p.codeByte s.tc :: pl), answersFrame_of_payload (exec_enc a p s) payload short, fun t same => ?_⟩
  rw [codeByte_of_packetType s.tc name]
  have body : decodeBody t.tc (s.tc.code n :: pl) = .ok p := by
    rw [same]
    exact (decodePayload_code distinct n pl).trans (inverts s.tc)
  have frame : decodeFrame t.tc (frameOf a (s.tc.code n :: pl)) = .ok p := by
    rw [decodeFrame_frameOf t.tc a (by simp) (by simp; omega), body]
  have checked : decodeChecked t.tc (frameOf a (s.tc.code n :: pl)) = .ok p := by
    rw [decodeChecked_frameOf t.tc a (by simp), frame]
  refine ⟨answersPacket_of_ok (exec_decChk _ t) checked, answersPacket_of_ok (exec_dec _ t) frame, ?_⟩
  rw [bodyOf_frameOf]
  exact answersPacket_of_ok (exec_decBody _ t) body

end Sys2Proof.Proofs
end

section
/-! PROOFS. The frame synchronizer (44_frame_sync.md): a push is a scan of what is held followed by the chunk, so it is
decided by the first pass over these bytes (R162 to R169) and, after a back-edge, by a push of what that pass left
(R170). -/

open Sys2Proof.Machine Sys2Proof.Claims

namespace Sys2Proof.Proofs

/-! ### The search -/

/-- The least index, byte by byte (R162). -/
theorem find_eq_some_iff {B : Memory} {v : Byte} {o : Nat} :
    Memory.find B v = some o ↔ B[o]? = some v ∧ ∀ i, i < o → B[i]? ≠ some v := by
  rw [Memory.find, List.findIdx?_eq_some_iff_getElem]
  constructor
  · rintro ⟨inside, found, before⟩
    refine ⟨List.getElem?_eq_some_iff.2 ⟨inside, eq_of_beq found⟩, fun i hi earlier => ?_⟩
    obtain ⟨_, same⟩ := List.getElem?_eq_some_iff.1 earlier
    exact before i hi (beq_iff_eq.2 same)
  · rintro ⟨found, before⟩
    obtain ⟨inside, same⟩ := List.getElem?_eq_some_iff.1 found
    refine ⟨inside, beq_iff_eq.2 same, fun i hi earlier => before i hi ?_⟩
    exact List.getElem?_eq_some_iff.2 ⟨hi.trans inside, eq_of_beq earlier⟩

/-! ### One pass -/

/-- The passes that go on are those of steps c to g, and dropping the garbage lengthens nothing (R170). -/
theorem scanPass_again_shorter {a : Byte} {B B' : Memory} {e : Option Event} (h : scanPass a B = .again e B') :
    B'.length < B.length := by
  rw [scanPass] at h
  split at h
  · cases h
  · have shorter := scanCandidate_again_shorter h
    rw [Memory.dropFirst, List.length_drop] at shorter
    omega

/-- Step g (R169): the event is decided by the last byte of the candidate, and exactly the candidate is dropped. -/
theorem scanCandidate_complete {a n crc : Byte} {body : Bytes} (rest : Bytes) (h1 : 2 ≤ n.toNat) (h2 : n.toNat + 2 ≤ 64)
    (h3 : body.length + 1 = n.toNat) :
    scanCandidate (a :: n :: body ++ crc :: rest) =
      .again (some (if crc8 body = crc then .valid body else .crcError)) rest := by
  have hn : byteAt (a :: n :: body ++ crc :: rest) 1 = n := rfl
  have event : candidateEvent (a :: n :: body ++ crc :: rest) (n.toNat + 2) =
      if crc8 body = crc then .valid body else .crcError := by
    simp [candidateEvent, Memory.readBytes, slice, byteAt, ← h3]
  have drained : Memory.dropFirst (a :: n :: body ++ crc :: rest) (n.toNat + 2) = rest := by
    simp [Memory.dropFirst, ← h3]
  rw [scanCandidate, if_neg (by simp)]
  simp only [hn, Config.maxFrameSize]
  rw [if_neg (by omega), if_neg (by simp; omega), event, drained]

/-! ### The loop -/

theorem scan_succ_of_stop {a : Byte} {B B' : Memory} (fuel : Nat) (h : scanPass a B = .stop B') :
    scan a (fuel + 1) B = (B', []) := by
  rw [scan, h]

theorem scan_succ_of_again {a : Byte} {B B' : Memory} {e : Option Event} (fuel : Nat)
    (h : scanPass a B = .again e B') :
    scan a (fuel + 1) B = ((scan a fuel B').1, e.toList ++ (scan a fuel B').2) := by
  rw [scan, h]

/-- Any two amounts of fuel above the length scan alike, since every back-edge shortens the buffer (R170). -/
theorem scan_eq_of_length_lt {a : Byte} {B : Memory} {f g : Nat} (hf : B.length < f) (hg : B.length < g) :
    scan a f B = scan a g B := by
  induction f generalizing g B with
  | zero => omega
  | succ f ih =>
    obtain ⟨g, rfl⟩ := Nat.exists_eq_succ_of_ne_zero (Nat.ne_zero_of_lt hg)
    cases pass : scanPass a B with
    | stop B' => rw [scan_succ_of_stop f pass, scan_succ_of_stop g pass]
    | again e B' =>
      have shorter := scanPass_again_shorter pass
      rw [scan_succ_of_again f pass, scan_succ_of_again g pass, ih (g := g) (by omega) (by omega)]

/-! ### A push on one accumulator -/

theorem pushBytes_eq_scan (a : Byte) (B chunk : Memory) :
    pushBytes a B chunk = scan a ((B ++ chunk).length + 1) (B ++ chunk) := rfl

theorem pushBytes_of_stop {a : Byte} {B chunk B' : Memory} (h : scanPass a (B ++ chunk) = .stop B') :
    pushBytes a B chunk = (B', []) :=
  scan_succ_of_stop _ h

/-- After a back-edge the push goes on as a push of the bytes left to an empty accumulator. -/
theorem pushBytes_of_again {a : Byte} {B chunk B' : Memory} {e : Option Event}
    (h : scanPass a (B ++ chunk) = .again e B') :
    pushBytes a B chunk = ((pushBytes a [] B').1, e.toList ++ (pushBytes a [] B').2) := by
  have enough : scan a (B ++ chunk).length B' = pushBytes a [] B' :=
    scan_eq_of_length_lt (scanPass_again_shorter h) (Nat.lt_succ_self _)
  rw [pushBytes_eq_scan, scan_succ_of_again _ h, enough]

/-- A back-edge without an event leaves no trace but the bytes it dropped. -/
theorem pushBytes_of_again_none {a : Byte} {B chunk B' : Memory} (h : scanPass a (B ++ chunk) = .again none B') :
    pushBytes a B chunk = pushBytes a [] B' :=
  pushBytes_of_again h

/-- Two pushes whose first passes agree do the same. -/
theorem pushBytes_congr {a : Byte} {B B' chunk chunk' : Memory}
    (h : scanPass a (B ++ chunk) = scanPass a (B' ++ chunk')) : pushBytes a B chunk = pushBytes a B' chunk' := by
  cases pass : scanPass a (B' ++ chunk') with
  | stop C => rw [pushBytes_of_stop (h.trans pass), pushBytes_of_stop pass]
  | again e C => rw [pushBytes_of_again (h.trans pass), pushBytes_of_again pass]

/-! ### `SYNC.PUSH` -/

/-- `SYNC.PUSH` leaves in its link, and answers, what the push on that link's accumulator gives (R160). -/
theorem pushes_pushBytes {k : Nat} {l : Link} {s : State} (chunk : Bytes) (h : s.links[k]? = some l) :
    Pushes k l chunk s (pushBytes l.syncAddr l.buf chunk).1 (pushBytes l.syncAddr l.buf chunk).2 := by
  have run : exec (.syncPush k chunk) s = execSyncPush k chunk s := rfl
  have there : s.link? k = some l := h
  rw [Pushes, run, execSyncPush, there]
  simp only [setBuf_eq_set _ h]
  rfl

theorem pushes_of_pushBytes {k : Nat} {l : Link} {s : State} {chunk B' : Bytes} {es : List Event}
    (h : s.links[k]? = some l) (hpush : pushBytes l.syncAddr l.buf chunk = (B', es)) : Pushes k l chunk s B' es := by
  have pushes := pushes_pushBytes chunk h
  rwa [hpush] at pushes

theorem emptied_links_getElem? {k : Nat} {l : Link} {s : State} (h : s.links[k]? = some l) :
    (emptied s k l).links[k]? = some ⟨l.syncAddr, []⟩ := by
  obtain ⟨inside, -⟩ := List.getElem?_eq_some_iff.1 h
  exact List.getElem?_set_self inside

/-- Emptying the link first is overwritten by the push: only what the push gives is seen. -/
theorem exec_syncPush_eq_emptied {k : Nat} {l : Link} {s : State} {chunk chunk' : Bytes} (h : s.links[k]? = some l)
    (hpush : pushBytes l.syncAddr l.buf chunk = pushBytes l.syncAddr [] chunk') :
    exec (.syncPush k chunk) s = exec (.syncPush k chunk') (emptied s k l) := by
  have onEmptied := pushes_pushBytes chunk' (emptied_links_getElem? h)
  have onLink := pushes_of_pushBytes h hpush
  rw [Pushes, List.set_set] at onEmptied
  exact onLink.trans onEmptied.symm

/-! ### The statements -/

/-- Settles O40: the search finds the least index, and without a sync byte the first pass stops with nothing held. -/
theorem noSyncByteClearsEverything : Obligations.NoSyncByteClearsEverything := by
  refine ⟨fun B v o => find_eq_some_iff, fun k l chunk s there noSync => ?_⟩
  exact pushes_of_pushBytes there (pushBytes_of_stop (scanPass_no_sync noSync))

/-- Settles O41: the first pass over the bytes with the garbage and over those without it is the same. -/
theorem leadingGarbageIsDropped : Obligations.LeadingGarbageIsDropped := by
  intro k l chunk garbage rest s there noSync held
  refine exec_syncPush_eq_emptied there (pushBytes_congr ?_)
  calc scanPass l.syncAddr (l.buf ++ chunk)
      = scanCandidate (l.syncAddr :: rest) := by rw [held, scanPass_skips_garbage rest noSync]
    _ = scanPass l.syncAddr ([] ++ l.syncAddr :: rest) := (scanPass_skips_garbage rest List.not_mem_nil).symm

/-- Settles O42: the first pass goes back to step a, without an event, with the length byte and all that follows. -/
theorem oversizeLengthSkipsOneByte : Obligations.OversizeLengthSkipsOneByte := by
  intro k l n chunk garbage rest s there noSync held oversize
  have pass : scanPass l.syncAddr (l.buf ++ chunk) = .again none (n :: rest) := by
    rw [held, scanPass_skips_garbage (n :: rest) noSync, scanCandidate_bad_length rest (.inl oversize)]
  exact exec_syncPush_eq_emptied there (pushBytes_of_again_none pass)

/-- Settles O45: the first pass emits the candidate's event and goes back to step a with what follows the candidate. -/
theorem completeCandidateGivesOneEvent : Obligations.CompleteCandidateGivesOneEvent := by
  intro k l n crc chunk garbage body rest s there noSync held h1 h2 h3
  have pass : scanPass l.syncAddr (l.buf ++ chunk) =
      .again (some (if crc8 body = crc then .valid body else .crcError)) rest := by
    have asCandidate : l.buf ++ chunk = garbage ++ l.syncAddr :: (n :: body ++ crc :: rest) := by simpa using held
    rw [asCandidate, scanPass_skips_garbage _ noSync]
    exact scanCandidate_complete rest h1 h2 h3
  have push := pushes_of_pushBytes there (pushBytes_of_again pass)
  refine ⟨_, _, pushes_pushBytes rest (emptied_links_getElem? there), fun right => ?_, fun wrong => ?_⟩
  · rwa [if_pos right] at push
  · rwa [if_neg wrong] at push

end Sys2Proof.Proofs
end

section
/-! PROOFS. The scan of 44_frame_sync.md as a relation: the loop does what the relation says (R170), what it leaves is
one of the three at-rest shapes (R13, R172), and it does not see where the stream was cut (R173). From these follow the
statements of `SYNC.PUSH`, with its undersized and waiting candidates (R164, R167, R168) and its links (R208). -/

open Sys2Proof.Machine Sys2Proof.Claims

namespace Sys2Proof.Proofs

/-! ### The loop and the relation -/

/-- A candidate that is complete is a body, the CRC byte and what follows (R169). -/
theorem exists_body_of_length_le {n : Nat} {rest : Bytes} (h1 : 1 ≤ n) (h2 : n ≤ rest.length) :
    ∃ body crc after, rest = body ++ crc :: after ∧ body.length + 1 = n := by
  have split : rest.take (n - 1) ++ rest[n - 1] :: rest.drop (n - 1 + 1) = rest := by
    rw [← List.drop_eq_getElem_cons, List.take_append_drop]
  refine ⟨_, _, _, split.symm, ?_⟩
  rw [List.length_take]
  omega

/-- With more fuel than bytes, the loop does what the relation says: one rule per way the first pass can go. -/
theorem scans_scan {a : Byte} {B : Bytes} {fuel : Nat} (h : B.length < fuel) :
    Scans a B (scan a fuel B).1 (scan a fuel B).2 := by
  induction fuel generalizing B with
  | zero => omega
  | succ fuel ih =>
    by_cases sync : a ∈ B
    case neg =>
      rw [scan_succ_of_stop fuel (scanPass_no_sync sync)]
      exact .clear sync
    obtain ⟨garbage, r, rfl, noSync⟩ := List.eq_append_cons_of_mem sync
    have pass := scanPass_skips_garbage r noSync
    rw [List.length_append, List.length_cons] at h
    cases r with
    | nil =>
      rw [scan_succ_of_stop fuel (pass.trans (scanCandidate_lone a))]
      exact .waitLength noSync
    | cons n rest =>
      rw [List.length_cons] at h
      by_cases bad : 64 < n.toNat + 2 ∨ n.toNat < 2
      · rw [scan_succ_of_again fuel (pass.trans (scanCandidate_bad_length rest bad))]
        exact .badLength noSync bad (ih (by rw [List.length_cons]; omega))
      obtain ⟨h64, h2⟩ : n.toNat + 2 ≤ 64 ∧ 2 ≤ n.toNat := by omega
      by_cases few : rest.length < n.toNat
      · rw [scan_succ_of_stop fuel (pass.trans (scanCandidate_waits h2 h64 few))]
        exact .waitBody noSync h2 h64 few
      obtain ⟨body, crc, after, rfl, hbody⟩ := exists_body_of_length_le (by omega) (Nat.not_lt.1 few)
      have complete := pass.trans (scanCandidate_complete after h2 h64 hbody)
      rw [List.length_append, List.length_cons] at h
      rw [scan_succ_of_again fuel complete]
      have scans := Scans.candidate (crc := crc) noSync h2 h64 hbody (ih (B := after) (by omega))
      simpa using scans

/-- The relation has one result, and a push gives it: each rule is one pass, and the rest is a push of what is left. -/
theorem pushBytes_of_scans {a : Byte} {B chunk B' : Bytes} {es : List Event} (h : Scans a (B ++ chunk) B' es) :
    pushBytes a B chunk = (B', es) := by
  generalize held : B ++ chunk = C at h
  induction h generalizing B chunk with
  | clear noSync => exact pushBytes_of_stop (by rw [held, scanPass_no_sync noSync])
  | waitLength noSync =>
    exact pushBytes_of_stop (by rw [held, scanPass_skips_garbage _ noSync, scanCandidate_lone])
  | @badLength g n rest _ _ noSync bad _ ih =>
    have pass : scanPass a (B ++ chunk) = .again none (n :: rest) := by
      rw [held, scanPass_skips_garbage _ noSync, scanCandidate_bad_length rest bad]
    rw [pushBytes_of_again_none pass, ih (List.nil_append _)]
  | waitBody noSync h2 h64 few =>
    exact pushBytes_of_stop (by rw [held, scanPass_skips_garbage _ noSync, scanCandidate_waits h2 h64 few])
  | @candidate g n body crc rest _ _ noSync h2 h64 hbody _ ih =>
    have pass : scanPass a (B ++ chunk) = .again (some (if crc8 body = crc then .valid body else .crcError)) rest := by
      rw [held, List.append_assoc, List.cons_append, scanPass_skips_garbage _ noSync]
      exact scanCandidate_complete rest h2 h64 hbody
    rw [pushBytes_of_again pass, ih (List.nil_append _)]
    rfl

theorem scans_pushBytes (a : Byte) (B chunk : Bytes) :
    Scans a (B ++ chunk) (pushBytes a B chunk).1 (pushBytes a B chunk).2 :=
  scans_scan (Nat.lt_succ_self _)

/-! ### What a scan leaves behind -/

/-- Every rule that ends a scan leaves one of the three at-rest shapes (R172). -/
theorem atRest_of_scans {a : Byte} {B B' : Bytes} {es : List Event} (h : Scans a B B' es) :
    (Link.mk a B').atRest = true := by
  induction h with
  | clear _ => rfl
  | waitLength _ => simp [Link.atRest]
  | badLength _ _ _ ih => exact ih
  | waitBody _ h2 h64 few => simp [Link.atRest, h2, few]; omega
  | candidate _ _ _ _ _ ih => exact ih

/-- The longest at-rest shape waits for the last byte of the longest frame (R13). -/
theorem length_le_of_atRest {l : Link} (h : l.atRest = true) : l.buf.length ≤ 63 := by
  rw [Link.atRest] at h
  split at h
  case h_1 empty => simp [empty]
  case h_2 lone => simp [lone]
  case h_3 waiting =>
    simp only [Bool.and_eq_true, decide_eq_true_eq] at h
    simp only [waiting, List.length_cons]
    omega

/-- A `Valid` body is the body of a complete candidate, and its length byte bounds it (R169). -/
theorem valid_length_of_scans {a : Byte} {B B' body : Bytes} {es : List Event} (h : Scans a B B' es)
    (hvalid : Event.valid body ∈ es) : 1 ≤ body.length ∧ body.length ≤ 61 := by
  induction h with
  | clear _ => cases hvalid
  | waitLength _ => cases hvalid
  | badLength _ _ _ ih => exact ih hvalid
  | waitBody _ _ _ _ => cases hvalid
  | @candidate _ n candidateBody crc _ _ _ _ h2 h64 hbody _ ih =>
    rcases List.mem_cons.1 hvalid with emitted | later
    · split at emitted
      · cases emitted
        omega
      · cases emitted
    · exact ih later

/-! ### Cutting the stream -/

/-- Garbage before what is scanned changes nothing: every rule admits it (R163). -/
theorem scans_append_garbage {a : Byte} {g B B' : Bytes} {es : List Event} (hg : a ∉ g) (h : Scans a B B' es) :
    Scans a (g ++ B) B' es := by
  have both {g' : Bytes} (hg' : a ∉ g') : a ∉ g ++ g' := List.not_mem_append hg hg'
  cases h with
  | clear noSync => exact .clear (both noSync)
  | waitLength noSync => simpa using Scans.waitLength (both noSync)
  | badLength noSync bad rest => simpa using Scans.badLength (both noSync) bad rest
  | waitBody noSync h2 h64 few => simpa using Scans.waitBody (both noSync) h2 h64 few
  | @candidate g' n body crc rest _ _ noSync h2 h64 hbody later =>
    simpa using Scans.candidate (crc := crc) (both noSync) h2 h64 hbody later

/-- Scanning a stream cut in two: what the first part leaves goes before the second (R173). A rule that goes on is
applied to the whole stream; where the first part ends, what it leaves is the stream without its garbage. -/
theorem scans_append {a : Byte} {B B₁ B₂ c : Bytes} {e₁ e₂ : List Event} (h₁ : Scans a B B₁ e₁)
    (h₂ : Scans a (B₁ ++ c) B₂ e₂) : Scans a (B ++ c) B₂ (e₁ ++ e₂) := by
  induction h₁ with
  | clear noSync => exact scans_append_garbage noSync h₂
  | waitLength noSync => simpa using scans_append_garbage noSync h₂
  | badLength noSync bad _ ih => simpa using Scans.badLength noSync bad (ih h₂)
  | waitBody noSync _ _ _ => simpa using scans_append_garbage noSync h₂
  | @candidate g n body crc rest _ _ noSync h2 h64 hbody _ ih =>
    simpa using Scans.candidate (crc := crc) noSync h2 h64 hbody (ih h₂)

/-! ### The statements about a push -/

/-- Settles O36: `SYNC.PUSH` is a push on its link's accumulator, and a push is a scan. -/
theorem syncPushRunsTheScan : Obligations.SyncPushRunsTheScan := fun _ l chunk _ there =>
  ⟨_, _, pushes_pushBytes chunk there, scans_pushBytes l.syncAddr l.buf chunk⟩

/-- Settles O37: every amount of fuel above the length scans alike, and as the relation says. -/
theorem scanEndsWithinItsBound : Obligations.ScanEndsWithinItsBound := fun _ _ _ enough =>
  ⟨scan_eq_of_length_lt enough (Nat.lt_succ_self _), scans_scan enough⟩

/-- Settles O38: the shape, the length and the bodies are those of the scan that the push is. -/
theorem pushLeavesTheLinkAtRest : Obligations.PushLeavesTheLinkAtRest := by
  intro k l chunk s there
  have scans := scans_pushBytes l.syncAddr l.buf chunk
  have rest := atRest_of_scans scans
  exact ⟨_, _, pushes_pushBytes chunk there, rest, length_le_of_atRest rest,
    fun body hvalid => valid_length_of_scans scans hvalid⟩

/-- After a push the link is there with what the push left in it. -/
theorem getElem?_set_of_getElem? {links : List Link} {k : Nat} {l : Link} (l' : Link) (h : links[k]? = some l) :
    (links.set k l')[k]? = some l' := by
  obtain ⟨inside, -⟩ := List.getElem?_eq_some_iff.1 h
  exact List.getElem?_set_self inside

/-- Settles O39: the scans of the two chunks make one scan of both, and a push gives the one result of a scan. -/
theorem chunkingDoesNotMatter : Obligations.ChunkingDoesNotMatter := by
  intro k l c₁ c₂ s there
  have first := scans_pushBytes l.syncAddr l.buf c₁
  set B₁ := (pushBytes l.syncAddr l.buf c₁).1
  have second := scans_pushBytes l.syncAddr B₁ c₂
  have both := scans_append first second
  rw [List.append_assoc] at both
  exact ⟨B₁, _, _, _, _, pushes_pushBytes c₁ there, pushes_pushBytes c₁ there,
    pushes_pushBytes (l := ⟨l.syncAddr, B₁⟩) c₂ (getElem?_set_of_getElem? _ there),
    pushes_of_pushBytes there (pushBytes_of_scans both)⟩

/-- Settles O43: an undersized length byte takes the back-edge of an oversized one. -/
theorem undersizeLengthSkipsOneByte : Obligations.UndersizeLengthSkipsOneByte := by
  intro k l n chunk garbage rest s there noSync held undersize
  have pass : scanPass l.syncAddr (l.buf ++ chunk) = .again none (n :: rest) := by
    rw [held, scanPass_skips_garbage (n :: rest) noSync, scanCandidate_bad_length rest (.inr undersize)]
  exact exec_syncPush_eq_emptied there (pushBytes_of_again_none pass)

/-- Settles O44: the two waiting shapes are the two rules by which a scan ends with bytes held. -/
theorem partialFrameWaits : Obligations.PartialFrameWaits := by
  intro k l n chunk garbage rest s there noSync
  refine ⟨fun held => ?_, fun held h2 h64 few => ?_⟩
  · exact pushes_of_pushBytes there (pushBytes_of_scans (held ▸ .waitLength noSync))
  · exact pushes_of_pushBytes there (pushBytes_of_scans (held ▸ .waitBody noSync h2 h64 few))

/-- Settles O50: a push to link `k` sets link `k` alone, so link `j` holds what it held before. -/
theorem linksAreIndependent : Obligations.LinksAreIndependent := by
  intro j k lj lk cj ck s distinct thereJ thereK
  have pushK := pushes_pushBytes ck thereK
  have kept : (s.links.set k ⟨lk.syncAddr, (pushBytes lk.syncAddr lk.buf ck).1⟩)[j]? = some lj := by
    rw [List.getElem?_set_ne distinct.symm, thereJ]
  exact ⟨_, _, _, _, _, pushes_pushBytes cj thereJ, pushK, pushK, pushes_pushBytes cj kept⟩

/-! ### `SYNC.RESET`, and a link that is not there -/

/-- `SYNC.RESET` clears the accumulator of a link that is there (R174). -/
theorem exec_syncReset {k : Nat} {l : Link} {s : State} (h : s.links[k]? = some l) :
    exec (.syncReset k) s =
      .next { s with links := s.links.set k ⟨l.syncAddr, []⟩, responses := s.responses ++ [.done .nothing] } := by
  have run : exec (.syncReset k) s = execSyncReset k s := rfl
  have there : s.link? k = some l := h
  rw [run, execSyncReset, there]
  simp only [setBuf_eq_set _ h]
  rfl

/-- Settles O47: what the link held is not looked at. -/
theorem syncResetEmptiesTheLink : Obligations.SyncResetEmptiesTheLink := fun _ _ _ there => exec_syncReset there

/-- Settles O48: both operations look the link up first, and beyond the last there is none. -/
theorem missingLinkIsRefused : Obligations.MissingLinkIsRefused := by
  intro k chunk s beyond
  have absent : s.link? k = none := link?_eq_none.2 beyond
  have push : exec (.syncPush k chunk) s = execSyncPush k chunk s := rfl
  have reset : exec (.syncReset k) s = execSyncReset k s := rfl
  exact ⟨by rw [push, execSyncPush, absent], by rw [reset, execSyncReset, absent]⟩

end Sys2Proof.Proofs
end

section
/-! PROOFS. The encode side for every variant (42_codec_encode.md): the frames of R103 to R110, the failures of R101 in
the order of R200, `ENC` against `WRAP` (R113), and a built frame pushed back to its own link (R114). -/

open Sys2Proof.Machine Sys2Proof.Claims

namespace Sys2Proof.Proofs

/-! ### Numbers of a word -/

theorem be32_eq_bytes4 (v : U32) : be32 v = bytes4 v.toNat := by
  rw [bytes4, ← extractLsb'_eq_byteOf, ← extractLsb'_eq_byteOf, ← extractLsb'_eq_byteOf, ← extractLsb'_eq_byteOf]
  rfl

/-- The unsigned reading of a word's signed reading is the word (00_scope.md R8; D13). -/
theorem unsignedOf_toInt {w : Nat} (v : BitVec w) : unsignedOf w v.toInt = v.toNat := by
  have bound : (v.toNat : Int) < 2 ^ w := by exact_mod_cast v.isLt
  rw [unsignedOf, BitVec.toInt_eq_toNat_cond]
  push_cast
  split_ifs <;> omega

/-- A signed 16-bit field goes out as the bytes of its two's complement. -/
theorem be16_eq_bytes2_unsignedOf (v : I16) : be16 v = bytes2 (unsignedOf 16 v.toInt) := by
  rw [unsignedOf_toInt, be16_eq_bytes2]

theorem be32_eq_bytes4_unsignedOf (v : I32) : be32 v = bytes4 (unsignedOf 32 v.toInt) := by
  rw [unsignedOf_toInt, be32_eq_bytes4]

@[simp] theorem length_bytes2 (n : Nat) : (bytes2 n).length = 2 := rfl
@[simp] theorem length_bytes3 (n : Nat) : (bytes3 n).length = 3 := rfl
@[simp] theorem length_bytes4 (n : Nat) : (bytes4 n).length = 4 := rfl

/-! ### The variants that never fail -/

theorem payloadAttitude_eq (pitch roll yaw : I16) : payloadAttitude pitch roll yaw =
    .ok (bytes2 (unsignedOf 16 pitch.toInt) ++ bytes2 (unsignedOf 16 roll.toInt) ++
      bytes2 (unsignedOf 16 yaw.toInt)) := by
  simp only [payloadAttitude, be16_eq_bytes2_unsignedOf]

theorem payloadVario_eq (v : I16) : payloadVario v = .ok (bytes2 (unsignedOf 16 v.toInt)) := by
  rw [payloadVario, be16_eq_bytes2_unsignedOf]

theorem payloadGps_eq (lat lon : I32) (speed heading alt : U16) (sats : Byte) :
    payloadGps lat lon speed heading alt sats =
      .ok (bytes4 (unsignedOf 32 lat.toInt) ++ bytes4 (unsignedOf 32 lon.toInt) ++ bytes2 speed.toNat ++
        bytes2 heading.toNat ++ bytes2 alt.toNat ++ [sats]) := by
  simp only [payloadGps, be32_eq_bytes4_unsignedOf, be16_eq_bytes2]

theorem payloadBaroAlt_eq (alt : U16) (v : Byte) : payloadBaroAlt alt v = .ok (bytes2 alt.toNat ++ [v]) := by
  rw [payloadBaroAlt, be16_eq_bytes2]

theorem payloadAirspeed_eq (speed : U16) : payloadAirspeed speed = .ok (bytes2 speed.toNat) := by
  rw [payloadAirspeed, be16_eq_bytes2]

/-- Settles O10: the payloads are the bytes of the two's complements, six and two of them. -/
theorem encSignedVariantsAnswerTheirFrame : Obligations.EncSignedVariantsAnswerTheirFrame := fun _ _ =>
  ⟨fun pitch roll yaw => answersFrame_of_payload rfl (payloadAttitude_eq pitch roll yaw) (by simp),
    fun v => answersFrame_of_payload rfl (payloadVario_eq v) (by simp)⟩

/-- Settles O11: the payload is the bytes of the six numbers, fifteen of them. -/
theorem encGpsAnswersItsFrame : Obligations.EncGpsAnswersItsFrame := fun _ lat lon speed heading alt sats _ =>
  answersFrame_of_payload rfl (payloadGps_eq lat lon speed heading alt sats) (by simp)

/-- Settles O12: the payloads are the bytes of the raw words, three and two of them. -/
theorem encRawWordVariantsAnswerTheirFrame : Obligations.EncRawWordVariantsAnswerTheirFrame := fun _ _ =>
  ⟨fun alt v => answersFrame_of_payload rfl (payloadBaroAlt_eq alt v) (by simp),
    fun speed => answersFrame_of_payload rfl (payloadAirspeed_eq speed) (by simp)⟩

/-! ### FlightMode and Rpm -/

/-- A payload above 60 bytes does not fit a frame (R100). -/
theorem encodeWith_oversize {a t : Byte} {pl : Bytes} (h : 60 < pl.length) :
    encodeWith a t (.ok pl) = .error .oversize := by
  rw [encodeWith, sealFrame_oversize h]
  rfl

theorem answers_oversize_of_payload {i : Instr} {s : State} {a t : Byte} {x : Except Condition Bytes} {pl : Bytes}
    (hexec : exec i s = s.answer (encodeWith a t x)) (hx : x = .ok pl) (hlen : 60 < pl.length) :
    Answers i s (.failed .oversize) := by
  rw [Answers, hexec, hx, encodeWith_oversize hlen]
  exact raise_eq s .oversize

theorem exec_encFlightMode (a : Byte) (mode : Bytes) (s : State) :
    exec (.encFlightMode a mode) s = s.answer (encodeWith a s.tc.flightMode (payloadFlightMode mode)) := rfl

/-- Settles O14: the terminator leaves 59 bytes for the mode. -/
theorem encFlightModeCopiesUpTo59Bytes : Obligations.EncFlightModeCopiesUpTo59Bytes := by
  intro a mode s
  have hexec := exec_encFlightMode a mode s
  have payload : payloadFlightMode mode = .ok (mode ++ [0x00]) := rfl
  have hlen : (mode ++ [0x00]).length = mode.length + 1 := by simp
  refine ⟨fun fits => ?_, fun long => answers_oversize_of_payload hexec payload (by omega)⟩
  rw [List.cons_append]
  exact answersFrame_of_payload hexec payload (by omega)

theorem exec_encRpm (a sourceId : Byte) (values : List U32) (s : State) :
    exec (.encRpm a sourceId values) s = s.answer (encodeWith a s.tc.rpm (payloadRpm sourceId values)) := rfl

/-- Values of 24 bits are written three bytes each after the source id (R110). -/
theorem payloadRpm_eq (sourceId : Byte) {values : List U32} (h : ∀ v ∈ values, v.toNat ≤ 0xFFFFFF) :
    payloadRpm sourceId values = .ok (sourceId :: values.flatMap be24) :=
  if_pos (List.all_eq_true.2 fun v hv => fitsU24_iff.2 (h v hv))

/-- One wide value fails the whole packet (R110). -/
theorem payloadRpm_range (sourceId : Byte) {values : List U32} (h : ∃ v ∈ values, 0xFFFFFF < v.toNat) :
    payloadRpm sourceId values = .error .range := by
  obtain ⟨v, hv, wide⟩ := h
  exact if_neg fun fits => Nat.not_lt.2 (fitsU24_iff.1 (List.all_eq_true.1 fits v hv)) wide

theorem flatMap_be24_eq_bytes3 (values : List U32) :
    values.flatMap be24 = values.flatMap fun v => bytes3 v.toNat :=
  congrArg (List.flatMap · values) (funext be24_eq_bytes3)

theorem length_rpmPayload (sourceId : Byte) (values : List U32) :
    (sourceId :: values.flatMap be24).length = 3 * values.length + 1 := by
  rw [List.length_cons, length_flatMap_be24]

/-- Settles O15: the range test comes with the payload, so it goes before the size test (D21). -/
theorem encRpmSendsUpTo19Values : Obligations.EncRpmSendsUpTo19Values := by
  intro a sourceId values s
  have hexec := exec_encRpm a sourceId values s
  have hlen := length_rpmPayload sourceId values
  refine ⟨fun wide => answers_failed_of_payload hexec (payloadRpm_range sourceId wide), fun fits => ?_⟩
  have payload := payloadRpm_eq sourceId fits
  refine ⟨fun few => ?_, fun many => answers_oversize_of_payload hexec payload (by omega)⟩
  rw [← flatMap_be24_eq_bytes3]
  exact answersFrame_of_payload hexec payload (by omega)

/-! ### `ENC` of any variant -/

/-- `ENC` does what the ENC_VARIANT row of its variant does (R100). -/
theorem exec_enc_eq_encRow (a : Byte) (p : PacketVariant) (s : State) : exec (.enc a p) s = exec (encRow a p) s := by
  cases p <;> rfl

theorem channel_wide_iff {ch : Channels} : (∃ c ∈ ch.toList, 2047 < c.toNat) ↔ ∃ i : Fin 16, 2047 < ch[i].toNat := by
  constructor
  · rintro ⟨c, hc, wide⟩
    obtain ⟨i, hi, rfl⟩ := List.getElem_of_mem hc
    exact ⟨⟨i, by simpa using hi⟩, by simpa using wide⟩
  · rintro ⟨i, wide⟩
    exact ⟨ch[i], by simp, wide⟩

/-- What `payload_of` and the size test make of a variant: a payload that fits a frame, a failure of the payload, or a
payload that does not fit. It is the reading of R100 that R101 lists. -/
inductive Sealable : PacketVariant → Option Condition → Prop where
  | fits {p pl} : payloadOf p = .ok pl → pl.length ≤ 60 → Sealable p none
  | fails {p c} : payloadOf p = .error c → Sealable p (some c)
  | long {p pl} : payloadOf p = .ok pl → 60 < pl.length → Sealable p (some .oversize)

/-- R101 with the order of R200 is what the payload and the size test give. -/
theorem sealable_encFailure (p : PacketVariant) : Sealable p p.encFailure := by
  cases p with
  | attitude pitch roll yaw => exact .fits rfl (by simp)
  | gps lat lon speed heading alt sats => exact .fits rfl (by simp)
  | batterySensor voltage current capacity remaining =>
    rw [PacketVariant.encFailure]
    split
    next wide => exact .fails (payloadBatterySensor_range voltage current remaining wide)
    next fits => exact .fits (payloadBatterySensor_eq voltage current remaining (Nat.not_lt.1 fits)) (by simp)
  | vario verticalSpeed => exact .fits rfl (by simp)
  | flightMode mode =>
    have hlen : (mode ++ [0x00]).length = mode.length + 1 := by simp
    rw [PacketVariant.encFailure]
    split
    next long => exact .long rfl (by omega)
    next short => exact .fits rfl (by omega)
  | baroAlt alt verticalSpeed => exact .fits rfl (by simp)
  | airspeed speed => exact .fits rfl (by simp)
  | rpm sourceId values =>
    have hlen := length_rpmPayload sourceId values
    rw [PacketVariant.encFailure]
    split
    next wide => exact .fails (payloadRpm_range sourceId wide)
    next noWide =>
      have payload := payloadRpm_eq sourceId fun v hv => Nat.not_lt.1 fun wide => noWide ⟨v, hv, wide⟩
      split
      next many => exact .long payload (by omega)
      next few => exact .fits payload (by omega)
  | rcChannelsPacked channels =>
    simp only [PacketVariant.encFailure, channel_wide_iff]
    split
    next wide => exact .fails (packChannels_range (not_inRange_of_lane wide))
    next fits => exact .fits (packChannels_eq fun i => Nat.not_lt.1 fun wide => fits ⟨i, wide⟩) (by simp)
  | unknown typeCode => exact .fails rfl

/-- `ENC` fails with the listed cause (R101). -/
theorem enc_answers_failed {a : Byte} {p : PacketVariant} {c : Condition} (h : p.encFailure = some c) (s : State) :
    Answers (.enc a p) s (.failed c) := by
  have sealable := sealable_encFailure p
  rw [h] at sealable
  cases sealable with
  | fails payload => exact answers_failed_of_payload (exec_enc a p s) payload
  | long payload long => exact answers_oversize_of_payload (exec_enc a p s) payload long

/-- Off the list, `ENC` answers the frame of its code and its payload (R100, R102). -/
theorem enc_answersFrame (a : Byte) {p : PacketVariant} (h : p.encFailure = none) (s : State) :
    ∃ pl, pl.length ≤ 60 ∧ AnswersFrame (.enc a p) s (frameOf a (p.codeByte s.tc :: pl)) := by
  have sealable := sealable_encFailure p
  rw [h] at sealable
  cases sealable with
  | fits payload short => exact ⟨_, short, answersFrame_of_payload (exec_enc a p s) payload short⟩

/-- Every variant off the list of R101 has a name: Unknown is on it. -/
theorem exists_packetType {p : PacketVariant} (h : p.encFailure = none) : ∃ n, p.packetType = some n := by
  cases p with
  | unknown typeCode => cases h
  | _ => exact ⟨_, rfl⟩

theorem getLast?_frameOf (a : Byte) (body : Bytes) : (frameOf a body).getLast? = some (crc8 body) := by
  exact List.getLast?_concat

/-- Settles O18: the list of R101 is decided by `sealable_encFailure`, and what is off the list is a built frame. -/
theorem encAnswersFrameOrListedFailure : Obligations.EncAnswersFrameOrListedFailure := by
  intro a p s
  refine ⟨exec_enc_eq_encRow a p s, fun c listed => enc_answers_failed listed s, fun accepted => ?_⟩
  obtain ⟨n, name⟩ := exists_packetType accepted
  obtain ⟨pl, short, answers⟩ := enc_answersFrame a accepted s
  rw [codeByte_of_packetType s.tc name] at answers
  have hlen : (frameOf a (s.tc.code n :: pl)).length = pl.length + 4 := length_frameOf a _
  refine ⟨_, answers, by omega, by omega, rfl, ?_, ⟨n, name, rfl⟩, ?_⟩
  · rw [hlen, frameOf_lengthByte]
    rfl
  · rw [getLast?_frameOf, bodyOf_frameOf]

/-! ### `WRAP` -/

theorem exec_wrap (a : Byte) (body : Bytes) (s : State) :
    exec (.wrap a body) s = s.answer ((wrapBody a body).map .frame) := rfl

theorem wrapBody_short {a : Byte} {body : Bytes} (h : body.length = 0) : wrapBody a body = .error .short := by
  rw [wrapBody, if_pos (by omega)]

theorem wrapBody_oversize {a : Byte} {body : Bytes} (h : 62 ≤ body.length) : wrapBody a body = .error .oversize := by
  rw [wrapBody, if_neg (by omega), if_pos (bodyOversize_iff.2 (by omega))]

theorem wrapBody_eq_frameOf {a : Byte} {body : Bytes} (h1 : 1 ≤ body.length) (h61 : body.length ≤ 61) :
    wrapBody a body = .ok (frameOf a body) := by
  rw [wrapBody, if_neg (by omega), if_neg fun long => absurd (bodyOversize_iff.1 long) (by omega)]
  rfl

theorem wrap_answersFrame (a : Byte) {body : Bytes} (h1 : 1 ≤ body.length) (h61 : body.length ≤ 61) (s : State) :
    AnswersFrame (.wrap a body) s (frameOf a body) := by
  rw [AnswersFrame, Answers, exec_wrap, wrapBody_eq_frameOf h1 h61]
  exact finish_eq s _

theorem wrap_answers_failed {a : Byte} {body : Bytes} {c : Condition} (h : wrapBody a body = .error c) (s : State) :
    Answers (.wrap a body) s (.failed c) := by
  rw [Answers, exec_wrap, h]
  exact raise_eq s c

/-- Settles O20: the length of the body decides, at 1 and at 62. -/
theorem wrapAnswersTheFrameOfItsBody : Obligations.WrapAnswersTheFrameOfItsBody := fun a _ s =>
  ⟨fun empty => wrap_answers_failed (wrapBody_short empty) s, fun h1 h61 => wrap_answersFrame a h1 h61 s,
    fun long => wrap_answers_failed (wrapBody_oversize long) s⟩

/-- An instruction answers one response in a state. -/
theorem answers_unique {i : Instr} {s : State} {r r' : Response} (h : Answers i s r) (h' : Answers i s r') :
    r = r' := by
  have same := congrArg State.responses (Host.Outcome.next.inj (h.symm.trans h'))
  exact List.cons.inj (List.append_cancel_left same) |>.1

/-- What `ENC` answers is the frame of a body of 1 to 61 bytes. -/
theorem enc_frame_eq {a : Byte} {p : PacketVariant} {s : State} {f : Bytes} (h : AnswersFrame (.enc a p) s f) :
    ∃ body, 1 ≤ body.length ∧ body.length ≤ 61 ∧ f = frameOf a body := by
  cases failure : p.encFailure with
  | some c => cases answers_unique h (enc_answers_failed failure s)
  | none =>
    obtain ⟨pl, short, answers⟩ := enc_answersFrame a failure s
    cases answers_unique h answers
    exact ⟨_, by simp, by rw [List.length_cons]; omega, rfl⟩

/-- What `WRAP` answers is the frame of its body, of 1 to 61 bytes. -/
theorem wrap_frame_eq {a : Byte} {body : Bytes} {s : State} {f : Bytes} (h : AnswersFrame (.wrap a body) s f) :
    1 ≤ body.length ∧ body.length ≤ 61 ∧ f = frameOf a body := by
  obtain ⟨onEmpty, onFitting, onLong⟩ := wrapAnswersTheFrameOfItsBody a body s
  rcases Nat.eq_zero_or_pos body.length with empty | h1
  · cases answers_unique h (onEmpty empty)
  rcases Nat.lt_or_ge 61 body.length with long | h61
  · cases answers_unique h (onLong long)
  cases answers_unique h (onFitting h1 h61)
  exact ⟨h1, h61, rfl⟩

/-- Settles O19: the frame `ENC` answers is a built one, and `WRAP` builds it from its body. -/
theorem encEqualsWrapOfItsBody : Obligations.EncEqualsWrapOfItsBody := by
  intro a p s f answers
  obtain ⟨body, h1, h61, rfl⟩ := enc_frame_eq answers
  rw [bodyOf_frameOf]
  exact wrap_answersFrame a h1 h61 s

/-! ### A built frame, pushed back -/

/-- A length byte can declare a body of up to 254 bytes. -/
theorem toNat_lengthByte {body : Bytes} (h : body.length ≤ 254) :
    (BitVec.ofNat 8 (body.length + 1)).toNat = body.length + 1 := by
  rw [BitVec.toNat_ofNat]
  omega

/-- The frame of a body of 1 to 61 bytes is one complete candidate with the right CRC, and nothing follows it. -/
theorem scans_frameOf (a : Byte) {body : Bytes} (h1 : 1 ≤ body.length) (h61 : body.length ≤ 61) :
    Scans a (frameOf a body) [] [.valid body] := by
  have lengthByte := toNat_lengthByte (body := body) (by omega)
  have scans := Scans.candidate (sync := a) (crc := crc8 body) (body := body) List.not_mem_nil
    (by omega) (by omega) lengthByte.symm (.clear List.not_mem_nil)
  rwa [if_pos rfl] at scans

/-- Settles O46: `ENC` and `WRAP` both answer built frames, and a built frame scans to one `Valid`. -/
theorem builtFrameIsReceivedOnce : Obligations.BuiltFrameIsReceivedOnce := by
  intro k l s there empty
  have received {body : Bytes} (h1 : 1 ≤ body.length) (h61 : body.length ≤ 61) :
      Pushes k l (frameOf l.syncAddr body) s [] [.valid body] :=
    pushes_of_pushBytes there (pushBytes_of_scans (by rw [empty]; exact scans_frameOf l.syncAddr h1 h61))
  constructor
  · intro body f answers
    obtain ⟨h1, h61, rfl⟩ := wrap_frame_eq answers
    exact received h1 h61
  · intro p f answers
    obtain ⟨body, h1, h61, rfl⟩ := enc_frame_eq answers
    rw [bodyOf_frameOf]
    exact received h1 h61

end Sys2Proof.Proofs
end

section
/-! PROOFS. The CRC-8 generator as arithmetic over GF(2) (40_crc8.md R80 to R82): each shift changes the register's
number by a multiple of the generator, so the CRC is congruent to the message times x^8; and the residue law (R85). -/

open Sys2Proof.Machine Sys2Proof.Claims

namespace Sys2Proof.Proofs

/-! ### Multiples of the generator -/

theorem generatorMultiple_append (xs ys : List Nat) :
    generatorMultiple (xs ++ ys) = generatorMultiple xs ^^^ generatorMultiple ys := by
  induction xs with
  | nil => exact (Nat.zero_xor _).symm
  | cons k xs ih =>
    change (0x1D5 <<< k) ^^^ generatorMultiple (xs ++ ys) = ((0x1D5 <<< k) ^^^ generatorMultiple xs) ^^^ _
    rw [ih, Nat.xor_assoc]

theorem generatorMultiple_shiftLeft (j : Nat) (xs : List Nat) :
    generatorMultiple xs <<< j = generatorMultiple (xs.map (· + j)) := by
  induction xs with
  | nil => exact Nat.zero_shiftLeft j
  | cons k xs ih =>
    change ((0x1D5 <<< k) ^^^ generatorMultiple xs) <<< j = (0x1D5 <<< (k + j)) ^^^ generatorMultiple (xs.map (· + j))
    rw [Nat.shiftLeft_xor_distrib, ih, Nat.shiftLeft_add]

/-- Congruence of polynomials over GF(2) modulo the generator. -/
def Congruent (a b : Nat) : Prop := ∃ shifts, a = generatorMultiple shifts ^^^ b

theorem congruent_refl (a : Nat) : Congruent a a := ⟨[], (Nat.zero_xor a).symm⟩

theorem congruent_trans {a b c : Nat} (h : Congruent a b) (h' : Congruent b c) : Congruent a c := by
  obtain ⟨xs, rfl⟩ := h
  obtain ⟨ys, rfl⟩ := h'
  exact ⟨xs ++ ys, by rw [generatorMultiple_append, Nat.xor_assoc]⟩

theorem congruent_shiftLeft {a b : Nat} (j : Nat) (h : Congruent a b) : Congruent (a <<< j) (b <<< j) := by
  obtain ⟨xs, rfl⟩ := h
  exact ⟨xs.map (· + j), by rw [Nat.shiftLeft_xor_distrib, generatorMultiple_shiftLeft]⟩

theorem congruent_xor {a b : Nat} (c : Nat) (h : Congruent a b) : Congruent (a ^^^ c) (b ^^^ c) := by
  obtain ⟨xs, rfl⟩ := h
  exact ⟨xs, Nat.xor_assoc _ _ _⟩

/-! ### The register -/

/-- One shift (R81) takes the generator off exactly when the x^8 term has come in. -/
theorem toNat_shiftLeft_one_eq (x : Byte) :
    x.toNat <<< 1 = (if x.msb then 0x1D5 else 0) ^^^ (crcShift x).toNat := by
  revert x
  decide

theorem congruent_crcShift (x : Byte) : Congruent (x.toNat <<< 1) (crcShift x).toNat := by
  rw [toNat_shiftLeft_one_eq]
  cases x.msb with
  | true => exact ⟨[0], rfl⟩
  | false => exact ⟨[], rfl⟩

/-- `k` shifts of the register are multiplication by x^k. -/
theorem congruent_crcShift_iterate (k : Nat) (x : Byte) : Congruent (x.toNat <<< k) (crcShift^[k] x).toNat := by
  induction k generalizing x with
  | zero => exact congruent_refl x.toNat
  | succ k ih =>
    rw [Nat.add_comm, Nat.shiftLeft_add, Nat.add_comm, Function.iterate_succ_apply]
    exact congruent_trans (congruent_shiftLeft k (congruent_crcShift x)) (ih (crcShift x))

theorem congruent_crcShifts (x : Byte) : Congruent (x.toNat <<< 8) (crcShifts x).toNat := congruent_crcShift_iterate 8 x

/-! ### The message -/

/-- One more byte moves the message up by x^8 and comes in below. -/
theorem messageNumber_concat (m : Bytes) (b : Byte) :
    messageNumber (m ++ [b]) = (messageNumber m <<< 8) ^^^ b.toNat := by
  have fold : messageNumber (m ++ [b]) = messageNumber m * 256 + b.toNat := by simp [messageNumber]
  rw [fold, Nat.mul_comm]
  apply Nat.eq_of_testBit_eq
  intro i
  rw [Nat.testBit_two_pow_mul_add _ b.isLt, Nat.testBit_xor, Nat.testBit_shiftLeft]
  split
  next low => simp [Nat.not_le.2 low]
  next high =>
    have above : b.toNat.testBit i = false :=
      Nat.testBit_lt_two_pow (b.isLt.trans_le (Nat.pow_le_pow_right (by decide) (Nat.not_lt.1 high)))
    simp [Nat.not_lt.1 high, above]

/-- The CRC is the message times x^8, modulo the generator: with each byte both sides are multiplied by x^8 (R82). -/
theorem congruent_crc8 (m : Bytes) : Congruent (messageNumber m <<< 8) (crc8 m).toNat := by
  induction m using List.reverseRecOn with
  | nil => exact congruent_refl 0
  | append_singleton m b ih =>
    have entered : Congruent (messageNumber (m ++ [b])) (crc8 m ^^^ b).toNat := by
      rw [messageNumber_concat, BitVec.toNat_xor]
      exact congruent_xor b.toNat ih
    rw [crc8_concat]
    exact congruent_trans (congruent_shiftLeft 8 entered) (congruent_crcShifts (crc8 m ^^^ b))

/-- Settles O1: `CRC8` answers the CRC, and the CRC is congruent to the message times x^8. -/
theorem crc8AnswersPolynomialRemainder : Obligations.Crc8AnswersPolynomialRemainder := by
  intro m s
  obtain ⟨shifts, multiple⟩ := congruent_crc8 m
  exact ⟨crc8 m, shifts, exec_crc8 m s, multiple⟩

/-! ### The residue -/

/-- A shift loses no bit: the generator's constant term marks that it was taken off. -/
theorem crcShift_eq_zero_iff (x : Byte) : crcShift x = 0 ↔ x = 0 := by
  revert x
  decide

theorem crcShifts_eq_zero_iff (x : Byte) : crcShifts x = 0 ↔ x = 0 := by
  simp only [crcShifts, crcShift_eq_zero_iff]

/-- A byte leaves a zero register exactly when it is what the register held. -/
theorem crcUpdate_eq_zero_iff (c b : Byte) : crcUpdate c b = 0 ↔ b = c := by
  exact (crcShifts_eq_zero_iff (c ^^^ b)).trans (BitVec.xor_eq_zero_iff.trans eq_comm)

/-- Settles O4: the residue of the message and a byte is the byte step, and a leading zero byte keeps the register 0. -/
theorem crc8ResidueIsZeroExactlyOnTheCrc : Obligations.Crc8ResidueIsZeroExactlyOnTheCrc := by
  refine ⟨fun m b => ?_, fun m => ?_⟩
  · rw [crc8_concat]
    exact crcUpdate_eq_zero_iff (crc8 m) b
  · have still : crcUpdate Config.crcInit 0 = Config.crcInit := (crcUpdate_eq_zero_iff 0 0).2 rfl
    rw [crc8, List.foldl_cons, still, crc8]

end Sys2Proof.Proofs
end

section
/-! PROOFS. The channel packer bit by bit (41_channel_packer.md R91, R93; 20_memory.md R35), and packing after unpacking
(R95): the buffer and the channels hold the bits of one 176-bit word. -/

open Sys2Proof.Machine Sys2Proof.Claims

namespace Sys2Proof.Proofs

/-! ### The word and its bytes -/

/-- The bytes of a word carry its bits in order. -/
theorem streamBit_wordBytes {k : Nat} (W : Nat) (h : k < 176) : streamBit (wordBytes W) k = W.testBit k := by
  have byte : (wordBytes W).getD (k / 8) 0 = BitVec.ofNat 8 (lane 8 W (k / 8)) := by
    have inside : k / 8 < 22 := by omega
    simp [wordBytes, Config.packedLen, inside]
  have position : k % 8 < 8 := Nat.mod_lt k (by decide)
  rw [streamBit, byte, BitVec.getLsbD_ofNat, lane_testBit W (k / 8) position, Nat.div_add_mod]
  simp [position]

theorem bytes_lt (b : Bytes) : ∀ v ∈ b.map BitVec.toNat, v < 2 ^ 8 := by
  intro v hv
  obtain ⟨x, -, rfl⟩ := List.mem_map.1 hv
  exact x.isLt

/-- The word of a buffer is below 2^176. -/
theorem byteWord_lt (b : Bytes) : byteWord b < 2 ^ 176 := by
  have few : ((b.take 22).map BitVec.toNat).length ≤ 22 := by
    rw [List.length_map, List.length_take]
    omega
  calc byteWord b < 2 ^ (8 * ((b.take 22).map BitVec.toNat).length) := laneSum_lt 8 _ (bytes_lt _)
    _ ≤ 2 ^ 176 := Nat.pow_le_pow_right (by decide) (by omega)

/-- The bytes of a buffer's word are its first 22. -/
theorem wordBytes_byteWord {b : Bytes} (h : 22 ≤ b.length) : wordBytes (byteWord b) = b.take 22 := by
  apply List.ext_getElem
  · rw [length_wordBytes, List.length_take]
    omega
  · intro k _ inside
    have byte : lane 8 (byteWord b) k = (b.take 22)[k].toNat := by
      have hlane := lane_laneSum 8 _ k (bytes_lt (b.take 22))
      rw [List.getD_eq_getElem _ _ (by simpa using inside), List.getElem_map] at hlane
      exact hlane
    simp only [wordBytes, List.getElem_map, List.getElem_range, byte]
    exact (BitVec.ofNat_toNat 8 _).trans (BitVec.setWidth_eq _)

/-- The bits of a buffer are those of its word, up to the 176 that are read. -/
theorem streamBit_eq_testBit {b : Bytes} {k : Nat} (h : 22 ≤ b.length) (hk : k < 176) :
    streamBit b k = (byteWord b).testBit k := by
  have inside : k / 8 < 22 := by omega
  rw [← streamBit_wordBytes _ hk, wordBytes_byteWord h]
  simp [streamBit, inside]

/-! ### The word and its channels -/

theorem toNat_wordChannels (W : Nat) (i : Fin 16) : (wordChannels W)[i].toNat = lane 11 W i := by
  have small : lane 11 W i < 2 ^ 11 := Nat.mod_lt _ (by decide)
  simp only [wordChannels, Config.chBits, Fin.getElem_fin, Vector.getElem_ofFn, BitVec.toNat_ofNat]
  omega

/-- What unpacking gives is in range: each lane has eleven bits (R93). -/
theorem inRange_wordChannels (W : Nat) : InRange (wordChannels W) := by
  intro i
  have small : lane 11 W i < 2 ^ 11 := Nat.mod_lt _ (by decide)
  rw [toNat_wordChannels]
  omega

/-- The word of a word's channels is the word. -/
theorem channelWord_wordChannels {W : Nat} (h : W < 2 ^ 176) : channelWord (wordChannels W) = W := by
  have lanes : (wordChannels W).toList.map BitVec.toNat = (List.range 16).map (lane 11 W) := by
    apply List.ext_getElem
    · simp
    · intro i _ inside
      have hi : i < 16 := by simpa using inside
      simpa using toNat_wordChannels W ⟨i, hi⟩
  rw [channelWord, lanes]
  exact laneSum_lanes 11 16 W h

/-! ### The statements -/

/-- Settles O5: the buffer's bits are the word's, and lane `i` of the word is channel `i`. -/
theorem chPackPlacesEveryBit : Obligations.ChPackPlacesEveryBit := by
  intro ch s fits
  refine ⟨_, chPack_answers_packed (packChannels_eq fits) s, length_wordBytes _, fun i j hj => ?_⟩
  rw [streamBit_wordBytes _ (by omega), ← lane_testBit _ _ hj, lane_channelWord fits]
  rfl

/-- Settles O7: the channels are the lanes of the buffer's word, and the word's bits are the buffer's. -/
theorem chUnpackReadsEveryBit : Obligations.ChUnpackReadsEveryBit := by
  intro b s
  refine ⟨fun enough => ?_, fun short => ?_⟩
  · refine ⟨_, chUnpack_answers_channels (unpackChannels_eq enough) s, inRange_wordChannels _, fun i j hj => ?_⟩
    rw [streamBit_eq_testBit enough (by omega), ← lane_testBit _ _ hj, ← toNat_wordChannels]
    rfl
  · rw [Answers, exec_chUnpack, unpackChannels_short short]
    exact raise_eq s .short

/-- Settles O9: the channels of the buffer's word are in range, and packing them writes that word's bytes. -/
theorem channelPackInvertsUnpack : Obligations.ChannelPackInvertsUnpack := by
  intro b s enough
  have packs : packChannels (wordChannels (byteWord b)) = .ok (b.take 22) := by
    rw [packChannels_eq (inRange_wordChannels _), channelWord_wordChannels (byteWord_lt b), wordBytes_byteWord enough]
  exact ⟨_, chUnpack_answers_channels (unpackChannels_eq enough) s, chPack_answers_packed packs⟩

end Sys2Proof.Proofs
end

section
/-! PROOFS. The decode rules of 43_codec_decode.md one by one (R133 to R141): what each reads, when it is FRAMING, and
that it reads nothing beyond its layout (R143). -/

open Sys2Proof.Machine Sys2Proof.Claims

namespace Sys2Proof.Proofs

/-! ### Fields as numbers -/

/-- The signed reading of a word's number is the word's (00_scope.md R8; D13). -/
theorem signedOf_toNat {w : Nat} (v : BitVec (w + 1)) : signedOf (w + 1) v.toNat = v.toInt := by
  rw [signedOf, BitVec.toInt_eq_toNat_cond, Nat.add_sub_cancel, Nat.pow_succ]
  push_cast
  split_ifs <;> omega

theorem toInt_ube16 (b : Bytes) (o : Nat) :
    (ube16 b o).toInt = signedOf 16 (num2 (byteAt b o) (byteAt b (o + 1))) := by
  rw [← signedOf_toNat, toNat_ube16]
  rfl

theorem toInt_ube32 (b : Bytes) (o : Nat) :
    (ube32 b o).toInt = signedOf 32 (num4 (byteAt b o) (byteAt b (o + 1)) (byteAt b (o + 2)) (byteAt b (o + 3))) := by
  rw [← signedOf_toNat, toNat_ube32]
  rfl

theorem ube16_append {b : Bytes} (extra : Bytes) {o : Nat} (h : o + 1 < b.length) :
    ube16 (b ++ extra) o = ube16 b o := by
  simp only [ube16, byteAt_append_left extra h, byteAt_append_left extra (Nat.lt_of_succ_lt h)]

theorem ube24_append {b : Bytes} (extra : Bytes) {o : Nat} (h : o + 2 < b.length) :
    ube24 (b ++ extra) o = ube24 b o := by
  simp only [ube24, byteAt_append_left extra h, byteAt_append_left extra (Nat.lt_of_succ_lt h),
    byteAt_append_left extra (Nat.lt_of_add_right_lt h)]

theorem ube32_append {b : Bytes} (extra : Bytes) {o : Nat} (h : o + 3 < b.length) :
    ube32 (b ++ extra) o = ube32 b o := by
  simp only [ube32, byteAt_append_left extra h, byteAt_append_left extra (show o + 2 < b.length by omega),
    byteAt_append_left extra (show o + 1 < b.length by omega), byteAt_append_left extra (Nat.lt_of_add_right_lt h)]

/-! ### The fixed layouts -/

theorem decodeAttitude_eq {pl : Bytes} (h : 6 ≤ pl.length) :
    decodeAttitude pl = .ok (.attitude (ube16 pl 0) (ube16 pl 2) (ube16 pl 4)) := if_neg (Nat.not_lt.2 h)

theorem decodeGps_eq {pl : Bytes} (h : 15 ≤ pl.length) : decodeGps pl =
    .ok (.gps (ube32 pl 0) (ube32 pl 4) (ube16 pl 8) (ube16 pl 10) (ube16 pl 12) (byteAt pl 14)) :=
  if_neg (Nat.not_lt.2 h)

theorem decodeBatterySensor_eq {pl : Bytes} (h : 8 ≤ pl.length) :
    decodeBatterySensor pl = .ok (.batterySensor (ube16 pl 0) (ube16 pl 2) (ube24 pl 4) (byteAt pl 7)) :=
  if_neg (Nat.not_lt.2 h)

theorem decodeVario_eq {pl : Bytes} (h : 2 ≤ pl.length) : decodeVario pl = .ok (.vario (ube16 pl 0)) :=
  if_neg (Nat.not_lt.2 h)

theorem decodeBaroAlt_eq {pl : Bytes} (h : 3 ≤ pl.length) :
    decodeBaroAlt pl = .ok (.baroAlt (ube16 pl 0) (byteAt pl 2)) := if_neg (Nat.not_lt.2 h)

theorem decodeAirspeed_eq {pl : Bytes} (h : 2 ≤ pl.length) : decodeAirspeed pl = .ok (.airspeed (ube16 pl 0)) :=
  if_neg (Nat.not_lt.2 h)

theorem exec_decBodyAttitude (pl : Bytes) (s : State) :
    exec (.decBodyAttitude pl) s = s.answerPacket (decodeAttitude pl) := rfl

theorem exec_decBodyGps (pl : Bytes) (s : State) : exec (.decBodyGps pl) s = s.answerPacket (decodeGps pl) := rfl

theorem exec_decBodyBatterySensor (pl : Bytes) (s : State) :
    exec (.decBodyBatterySensor pl) s = s.answerPacket (decodeBatterySensor pl) := rfl

theorem exec_decBodyVario (pl : Bytes) (s : State) : exec (.decBodyVario pl) s = s.answerPacket (decodeVario pl) := rfl

theorem exec_decBodyBaroAlt (pl : Bytes) (s : State) :
    exec (.decBodyBaroAlt pl) s = s.answerPacket (decodeBaroAlt pl) := rfl

theorem exec_decBodyAirspeed (pl : Bytes) (s : State) :
    exec (.decBodyAirspeed pl) s = s.answerPacket (decodeAirspeed pl) := rfl

/-- A payload that fails the length test of its rule is answered FRAMING. -/
theorem answers_framing_of_short {i : Instr} {s : State} {n len : Nat} {x : Except Condition PacketVariant}
    (hexec : exec i s = s.answerPacket (if len < n then .error .framing else x)) (h : len < n) :
    Answers i s (.failed .framing) :=
  answers_failed_of_error hexec (if_pos h)

/-- Settles O21: each field is the signed reading of the word at its offset. -/
theorem decBodySignedTypesReadTheirFields : Obligations.DecBodySignedTypesReadTheirFields := by
  intro s
  refine ⟨fun a b c d e f rest => ?_, fun pl short => answers_framing_of_short rfl short, fun a b rest => ?_,
    fun pl short => answers_framing_of_short rfl short⟩
  · have row := exec_decBodyAttitude (a :: b :: c :: d :: e :: f :: rest) s
    exact ⟨_, _, _, answersPacket_of_ok row (decodeAttitude_eq (by simp)), toInt_ube16 _ 0, toInt_ube16 _ 2,
      toInt_ube16 _ 4⟩
  · have row := exec_decBodyVario (a :: b :: rest) s
    exact ⟨_, answersPacket_of_ok row (decodeVario_eq (by simp)), toInt_ube16 _ 0⟩

/-- Settles O22: two signed fields of four bytes, three unsigned of two, and one byte. -/
theorem decBodyGpsReadsItsFields : Obligations.DecBodyGpsReadsItsFields := by
  intro s
  refine ⟨?_, fun pl short => answers_framing_of_short rfl short⟩
  intro a0 a1 a2 a3 o0 o1 o2 o3 s0 s1 h0 h1 e0 e1 k rest
  have row := exec_decBodyGps ([a0, a1, a2, a3, o0, o1, o2, o3, s0, s1, h0, h1, e0, e1, k] ++ rest) s
  exact ⟨_, _, _, _, _, answersPacket_of_ok row (decodeGps_eq (by simp)), toInt_ube32 _ 0, toInt_ube32 _ 4,
    toNat_ube16 _ 8, toNat_ube16 _ 10, toNat_ube16 _ 12⟩

/-- Settles O23: each field is the number of the word at its offset, or its byte. -/
theorem decBodyUnsignedTypesReadTheirFields : Obligations.DecBodyUnsignedTypesReadTheirFields := by
  intro s
  refine ⟨fun v0 v1 i0 i1 q0 q1 q2 r rest => ?_, fun pl short => answers_framing_of_short rfl short,
    fun e0 e1 v rest => ?_, fun pl short => answers_framing_of_short rfl short, fun s0 s1 rest => ?_,
    fun pl short => answers_framing_of_short rfl short⟩
  · have row := exec_decBodyBatterySensor ([v0, v1, i0, i1, q0, q1, q2, r] ++ rest) s
    exact ⟨_, _, _, answersPacket_of_ok row (decodeBatterySensor_eq (by simp)), toNat_ube16 _ 0, toNat_ube16 _ 2,
      toNat_ube24 _ 4⟩
  · have row := exec_decBodyBaroAlt ([e0, e1, v] ++ rest) s
    exact ⟨_, answersPacket_of_ok row (decodeBaroAlt_eq (by simp)), toNat_ube16 _ 0⟩
  · have row := exec_decBodyAirspeed ([s0, s1] ++ rest) s
    exact ⟨_, answersPacket_of_ok row (decodeAirspeed_eq (by simp)), toNat_ube16 _ 0⟩

/-! ### FlightMode -/

/-- The mode is what stands before the first 0x00 (R137). -/
theorem decodeFlightMode_terminated {mode : Bytes} (rest : Bytes) (h : 0x00 ∉ mode) :
    decodeFlightMode (mode ++ 0x00 :: rest) = .ok (.flightMode mode) := by
  have terminator : ((mode ++ 0x00 :: rest).findIdx? fun b => b == 0x00) = some mode.length := find_append rest h
  rw [decodeFlightMode, terminator]
  simp [slice]

theorem decodeFlightMode_unterminated {pl : Bytes} (h : 0x00 ∉ pl) : decodeFlightMode pl = .error .framing := by
  have noTerminator : (pl.findIdx? fun b => b == 0x00) = none := find_eq_none.2 h
  rw [decodeFlightMode, noTerminator]

/-- Settles O24: the search stops at the first 0x00, and without one the rule fails. -/
theorem decBodyFlightModeStopsAtTheTerminator : Obligations.DecBodyFlightModeStopsAtTheTerminator := fun _ =>
  ⟨fun _ rest noZero => answersPacket_of_ok rfl (decodeFlightMode_terminated rest noZero),
    fun _ noZero => answers_failed_of_error rfl (decodeFlightMode_unterminated noZero)⟩

/-! ### Rpm -/

/-- The three bytes of a group. -/
def groupBytes (g : Byte × Byte × Byte) : Bytes := [g.1, g.2.1, g.2.2]

/-- The number of a group. -/
def groupNumber (g : Byte × Byte × Byte) : Nat := num3 g.1 g.2.1 g.2.2

theorem length_flatMap_groupBytes (groups : List (Byte × Byte × Byte)) :
    (groups.flatMap groupBytes).length = 3 * groups.length := by
  induction groups with
  | nil => rfl
  | cons g groups ih =>
    rw [List.flatMap_cons, List.length_append, ih, List.length_cons, Nat.mul_succ, Nat.add_comm]
    rfl

/-- The word read at group `i` has the number of group `i`, whatever follows the groups. -/
theorem toNat_ube24_groups (rest : Bytes) : ∀ (groups : List (Byte × Byte × Byte)) {i : Nat} (h : i < groups.length),
    (ube24 (groups.flatMap groupBytes ++ rest) (3 * i)).toNat = groupNumber groups[i]
  | _ :: _, 0, _ => toNat_ube24 _ 0
  | g :: groups, i + 1, h => by
    have ih := toNat_ube24_groups rest groups (Nat.lt_of_succ_lt_succ h)
    rw [toNat_ube24] at ih ⊢
    exact ih

/-- The number of whole groups is what the division by three gives: fewer than three bytes are left (R140, D18). -/
theorem decodeRpm_groups (source : Byte) (groups : List (Byte × Byte × Byte)) {rest : Bytes} (h : rest.length < 3) :
    decodeRpm (source :: (groups.flatMap groupBytes ++ rest)) =
      .ok (.rpm source ((List.range groups.length).map fun i =>
        ube24 (source :: (groups.flatMap groupBytes ++ rest)) (1 + 3 * i))) := by
  have count : ((source :: (groups.flatMap groupBytes ++ rest)).length - 1) / 3 = groups.length := by
    rw [List.length_cons, List.length_append, length_flatMap_groupBytes]
    omega
  rw [decodeRpm, if_neg (by simp), count]
  rfl

/-- Settles O25: the values are the words at the groups, one per whole group. -/
theorem decBodyRpmReadsWholeGroups : Obligations.DecBodyRpmReadsWholeGroups := by
  intro s
  refine ⟨fun source groups rest few => ?_, answers_failed_of_error rfl rfl⟩
  refine ⟨_, answersPacket_of_ok rfl (decodeRpm_groups source groups few), ?_⟩
  refine List.ext_getElem (by simp) fun i _ inside => ?_
  have value := toNat_ube24_groups rest groups (i := i) (by simpa using inside)
  simp only [List.map_map, List.getElem_map, List.getElem_range, Function.comp_apply]
  rw [Nat.add_comm]
  rw [toNat_ube24] at value ⊢
  exact value

/-! ### RcChannelsPacked -/

theorem decodeRcChannelsPacked_eq {pl : Bytes} (h : 22 ≤ pl.length) :
    decodeRcChannelsPacked pl = .ok (.rcChannelsPacked (wordChannels (byteWord pl))) := by
  rw [decodeRcChannelsPacked, unpackChannels_eq h]

theorem decodeRcChannelsPacked_framing {pl : Bytes} (h : pl.length < 22) :
    decodeRcChannelsPacked pl = .error .framing := by
  rw [decodeRcChannelsPacked, unpackChannels_short h]

/-- Settles O26: the rule unpacks, and turns SHORT into FRAMING (60_exceptions.md R195). -/
theorem decBodyRcChannelsIsUnpack : Obligations.DecBodyRcChannelsIsUnpack := fun _ s =>
  ⟨fun enough => ⟨_, answersPacket_of_ok rfl (decodeRcChannelsPacked_eq enough),
      chUnpack_answers_channels (unpackChannels_eq enough) s, inRange_wordChannels _⟩,
    fun short => answers_failed_of_error rfl (decodeRcChannelsPacked_framing short)⟩

/-- The packed word is read from the first 22 bytes. -/
theorem byteWord_append {pl : Bytes} (extra : Bytes) (h : 22 ≤ pl.length) : byteWord (pl ++ extra) = byteWord pl := by
  rw [byteWord, Config.packedLen, List.take_append_of_le_length h]
  rfl

/-! ### Bytes beyond the layout -/

theorem exec_congr_of_decode {i j : Instr} {s : State} {x y : Except Condition PacketVariant}
    (hi : exec i s = s.answerPacket x) (hj : exec j s = s.answerPacket y) (h : x = y) : exec i s = exec j s := by
  rw [hi, hj, h]

/-- Settles O34: each rule reads the same words with and without the excess (D15). -/
theorem excessPayloadIsIgnored : Obligations.ExcessPayloadIsIgnored := by
  intro pl extra s
  have longer {n : Nat} (h : n ≤ pl.length) : n ≤ (pl ++ extra).length := by
    rw [List.length_append]
    omega
  refine ⟨fun h => ?_, fun h => ?_, fun h => ?_, fun h => ?_, fun h => ?_, fun h => ?_, fun h => ?_, fun h => ?_⟩
  · refine exec_congr_of_decode rfl rfl ?_
    rw [decodeAttitude_eq (longer h), decodeAttitude_eq h, ube16_append extra (by omega),
      ube16_append extra (by omega), ube16_append extra (by omega)]
  · refine exec_congr_of_decode rfl rfl ?_
    rw [decodeGps_eq (longer h), decodeGps_eq h, ube32_append extra (by omega), ube32_append extra (by omega),
      ube16_append extra (by omega), ube16_append extra (by omega), ube16_append extra (by omega),
      byteAt_append_left extra (by omega)]
  · refine exec_congr_of_decode rfl rfl ?_
    rw [decodeBatterySensor_eq (longer h), decodeBatterySensor_eq h, ube16_append extra (by omega),
      ube16_append extra (by omega), ube24_append extra (by omega), byteAt_append_left extra (by omega)]
  · refine exec_congr_of_decode rfl rfl ?_
    rw [decodeVario_eq (longer h), decodeVario_eq h, ube16_append extra (by omega)]
  · obtain ⟨mode, rest, rfl, noZero⟩ := List.eq_append_cons_of_mem h
    refine exec_congr_of_decode rfl rfl ?_
    rw [List.append_assoc, List.cons_append, decodeFlightMode_terminated _ noZero,
      decodeFlightMode_terminated _ noZero]
  · refine exec_congr_of_decode rfl rfl ?_
    rw [decodeBaroAlt_eq (longer h), decodeBaroAlt_eq h, ube16_append extra (by omega),
      byteAt_append_left extra (by omega)]
  · refine exec_congr_of_decode rfl rfl ?_
    rw [decodeAirspeed_eq (longer h), decodeAirspeed_eq h, ube16_append extra (by omega)]
  · refine exec_congr_of_decode rfl rfl ?_
    rw [decodeRcChannelsPacked_eq (longer h), decodeRcChannelsPacked_eq h, byteWord_append extra h]

end Sys2Proof.Proofs
end

section
/-! PROOFS. The decoders over whole bodies and frames (43_codec_decode.md): the BODY rows behind the dispatch (R131),
the bodies that decode and their frames (R130 to R142), the CRC test of `DEC.CHK` (R132), and what `DEC` does not look
at (R144). -/

open Sys2Proof.Machine Sys2Proof.Claims

namespace Sys2Proof.Proofs

/-! ### The dispatch and the rows -/

theorem decodeBody_code {tc : TypeCodes} (h : tc.distinct = true) (n : PacketType) (pl : Bytes) :
    decodeBody tc (tc.code n :: pl) = decodeNamed tc n pl := decodePayload_code h n pl

/-- The row of a name's code runs the rule of the name. -/
theorem exec_bodyRow_code {s : State} (h : s.tc.distinct = true) (n : PacketType) (pl : Bytes) :
    exec (bodyRow s.tc (s.tc.code n) pl) s = s.answerPacket (decodeNamed s.tc n pl) := by
  rw [bodyRow, lookup_code h]
  cases n <;> rfl

/-- A byte that is no code is none of the nine handled ones. -/
theorem not_mem_handled_of_code_ne {tc : TypeCodes} {t : Byte} (h : ∀ n, tc.code n ≠ t) :
    t ∉ [tc.attitude, tc.gps, tc.batterySensor, tc.vario, tc.flightMode, tc.baroAlt, tc.airspeed, tc.rpm,
      tc.rcChannelsPacked] := by
  simp only [List.mem_cons, List.not_mem_nil, or_false, not_or]
  exact ⟨(h .attitude).symm, (h .gps).symm, (h .batterySensor).symm, (h .vario).symm, (h .flightMode).symm,
    (h .baroAlt).symm, (h .airspeed).symm, (h .rpm).symm, (h .rcChannelsPacked).symm⟩

/-- Settles O28: a code selects its name's rule in `DEC.BODY` and its name's row; any other byte selects the default. -/
theorem decBodyDispatchesOnTheTypeByte : Obligations.DecBodyDispatchesOnTheTypeByte := by
  intro s distinct
  refine ⟨fun n pl => ⟨?_, lookup_code distinct n⟩, fun t pl unenumerated => ?_, ?_⟩
  · rw [exec_decBody, decodeBody_code distinct, exec_bodyRow_code distinct]
  · have byDefault : decodeBody s.tc (t :: pl) = decodeUnknown t :=
      decodePayload_unhandled pl (not_mem_handled_of_code_ne unenumerated)
    rw [exec_decBody, byDefault]
    rfl
  · exact answers_failed_of_error (exec_decBody [] s) rfl

/-! ### What fits decodes -/

theorem decodeRpm_ok {pl : Bytes} (h : 1 ≤ pl.length) : ∃ p, decodeRpm pl = .ok p := ⟨_, if_neg (Nat.not_lt.2 h)⟩

theorem decodeFlightMode_ok {pl : Bytes} (h : 0x00 ∈ pl) : ∃ p, decodeFlightMode pl = .ok p := by
  obtain ⟨mode, rest, rfl, noZero⟩ := List.eq_append_cons_of_mem h
  exact ⟨_, decodeFlightMode_terminated rest noZero⟩

/-- A payload that fits the rule of its name decodes (R133 to R142). -/
theorem decodeNamed_ok (tc : TypeCodes) {n : PacketType} {pl : Bytes} (h : PayloadFits n pl) :
    ∃ p, decodeNamed tc n pl = .ok p := by
  cases n with
  | attitude => exact ⟨_, decodeAttitude_eq h⟩
  | gps => exact ⟨_, decodeGps_eq h⟩
  | batterySensor => exact ⟨_, decodeBatterySensor_eq h⟩
  | vario => exact ⟨_, decodeVario_eq h⟩
  | flightMode => exact decodeFlightMode_ok h
  | baroAlt => exact ⟨_, decodeBaroAlt_eq h⟩
  | airspeed => exact ⟨_, decodeAirspeed_eq h⟩
  | rpm => exact decodeRpm_ok h
  | rcChannelsPacked => exact ⟨_, decodeRcChannelsPacked_eq h⟩
  | _ => exact ⟨_, rfl⟩

/-! ### Frames -/

/-- Any last byte frames a body: taking the frame apart does not look at it. -/
theorem bodyOf_concat (a n c : Byte) (body : Bytes) : bodyOf (a :: n :: body ++ [c]) = body := by
  simp [bodyOf]

/-- The shape of a frame is decided by its length byte and its body (R130). -/
theorem shapeOk_concat_iff (a n c : Byte) (body : Bytes) :
    shapeOk (a :: n :: body ++ [c]) = true ↔ 1 ≤ body.length ∧ n.toNat = body.length + 1 := by
  have hlen : (a :: n :: body ++ [c]).length = body.length + 3 := by simp
  rw [shapeOk_iff_of_lengthByte (n := n) rfl, hlen]
  omega

/-- `DEC` of a frame, from its length byte and its body: the address and the last byte do not occur (R144). -/
theorem decodeFrame_concat (tc : TypeCodes) (a n c : Byte) (body : Bytes) :
    decodeFrame tc (a :: n :: body ++ [c]) =
      if 1 ≤ body.length ∧ n.toNat = body.length + 1 then decodeBody tc body else .error .framing := by
  have shape := shapeOk_concat_iff a n c body
  split
  next fits => rw [decodeFrame_wellShaped (shape.2 fits), bodyOf_concat]
  next misfits => exact if_neg fun ok => misfits (shape.1 ok)

/-- With the right length byte `DEC` goes on to the body, of up to 254 bytes. -/
theorem decodeFrame_concat_fits (tc : TypeCodes) (a c : Byte) {body : Bytes} (h1 : 1 ≤ body.length)
    (h254 : body.length ≤ 254) :
    decodeFrame tc (a :: BitVec.ofNat 8 (body.length + 1) :: body ++ [c]) = decodeBody tc body := by
  rw [decodeFrame_concat, if_pos ⟨h1, toNat_lengthByte h254⟩]

/-- Settles O33: neither byte occurs in what `DEC` makes of the frame. -/
theorem decIgnoresAddressAndCrc : Obligations.DecIgnoresAddressAndCrc := by
  intro a a' c c' body s
  refine ⟨fun n => ?_, fun h1 h254 => ?_⟩
  · rw [exec_dec, exec_dec, decodeFrame_concat, decodeFrame_concat]
  · rw [exec_dec, decodeFrame_concat_fits s.tc a c h1 h254, exec_decBody]

/-- Settles O30: the rule of the name gives the variant, and each of the three decoders comes down to that rule. -/
theorem wellShapedFramesDecode : Obligations.WellShapedFramesDecode := by
  intro n pl s distinct fits
  obtain ⟨p, named⟩ := decodeNamed_ok s.tc fits
  have body : decodeBody s.tc (s.tc.code n :: pl) = .ok p := (decodeBody_code distinct n pl).trans named
  refine ⟨p, answersPacket_of_ok (exec_decBody _ s) body, fun short a c => ⟨?_, ?_⟩⟩
  · have frame := decodeFrame_concat_fits s.tc a c (body := s.tc.code n :: pl) (by simp) (by simp; omega)
    exact answersPacket_of_ok (exec_dec _ s) (frame.trans body)
  · have frame := decodeFrame_frameOf s.tc a (body := s.tc.code n :: pl) (by simp) (by simp; omega)
    have checked := decodeChecked_frameOf s.tc a (body := s.tc.code n :: pl) (by simp)
    exact answersPacket_of_ok (exec_decChk _ s) (checked.trans (frame.trans body))

/-- The byte `DEC.CHK` compares is the last one (R132). -/
theorem getLast?_eq_some_iff_byteAt {f : Bytes} {c : Byte} (h : 4 ≤ f.length) :
    f.getLast? = some c ↔ c = byteAt f (f.length - 1) := by
  have last : f.getLast? = some (byteAt f (f.length - 1)) := by
    have inside : f.length - 1 < f.length := by omega
    rw [List.getLast?_eq_getElem?, byteAt, List.getD_eq_getElem _ _ inside, List.getElem?_eq_getElem inside]
  rw [last, Option.some.injEq, eq_comm]

/-- Settles O32: the three outcomes of `decodeChecked_cases`, told apart by the length and the last byte. -/
theorem decChkTestsTheCrcFirst : Obligations.DecChkTestsTheCrcFirst := by
  intro f s
  have hexec := exec_decChk f s
  have crcByte (long : 4 ≤ f.length) :
      f.getLast? = some (crc8 (bodyOf f)) ↔ crc8 (frameBody f) = byteAt f (f.length - 1) := by
    rw [getLast?_eq_some_iff_byteAt long, frameBody_eq_dropLast, bodyOf]
  rcases decodeChecked_cases s.tc f with ⟨short, framing⟩ | ⟨long, wrong, crc⟩ | ⟨long, right, toFrame⟩
  · exact ⟨fun _ => answers_failed_of_error hexec framing, fun long => absurd short (Nat.not_lt.2 long),
      fun long => absurd short (Nat.not_lt.2 long)⟩
  · exact ⟨fun short => absurd short (Nat.not_lt.2 long), fun _ _ => answers_failed_of_error hexec crc,
      fun _ right => absurd ((crcByte long).1 right) wrong⟩
  · exact ⟨fun short => absurd short (Nat.not_lt.2 long), fun _ wrong => absurd ((crcByte long).2 right) wrong,
      fun _ _ => by rw [hexec, toFrame, exec_dec]⟩

end Sys2Proof.Proofs
end

section
/-! PROOFS. The whole machine: an instruction of no link answers one response that its operand and the type codes
decide, and a failure only with a cause listed for it (20_memory.md R39; 60_exceptions.md R190, R191); with the two
operations of the synchronizer this is all that an instruction can do, and the invariant of a run follows. -/

open Sys2Proof.Machine Sys2Proof.Claims

namespace Sys2Proof.Proofs

/-! ### What the shared functions can fail with -/

theorem packChannels_error {ch : Channels} {c : Condition} (h : packChannels ch = .error c) : c = .range := by
  rw [packChannels] at h
  split at h <;> cases h
  rfl

theorem unpackChannels_error {b : Bytes} {c : Condition} (h : unpackChannels b = .error c) : c = .short := by
  rw [unpackChannels] at h
  split at h <;> cases h
  rfl

theorem wrapBody_error {a : Byte} {body : Bytes} {c : Condition} (h : wrapBody a body = .error c) :
    c ∈ [Condition.short, .oversize] := by
  rw [wrapBody] at h
  split at h
  · cases h
    decide
  · split at h <;> cases h
    decide

theorem decodeFrame_error {tc : TypeCodes} {f : Bytes} {c : Condition} (h : decodeFrame tc f = .error c) :
    c = .framing := by
  rcases decodeFrame_answers tc f with ⟨p, ok⟩ | framing
  · cases h.symm.trans ok
  · cases h.symm.trans framing
    rfl

theorem decodeChecked_error {tc : TypeCodes} {f : Bytes} {c : Condition} (h : decodeChecked tc f = .error c) :
    c ∈ [Condition.framing, .crc] := by
  rcases decodeChecked_cases tc f with ⟨-, framing⟩ | ⟨-, -, crc⟩ | ⟨-, -, toFrame⟩
  · cases h.symm.trans framing
    decide
  · cases h.symm.trans crc
    decide
  · rw [decodeFrame_error (toFrame.symm.trans h)]
    decide

/-- A rule by name fails with FRAMING or not at all. -/
theorem decodeNamed_error {tc : TypeCodes} {n : PacketType} {pl : Bytes} {c : Condition}
    (h : decodeNamed tc n pl = .error c) : c = .framing := by
  simp only [decodeNamed, decodeAttitude, decodeGps, decodeBatterySensor, decodeVario, decodeFlightMode, decodeBaroAlt,
    decodeAirspeed, decodeRpm, decodeRcChannelsPacked, decodeUnknown] at h
  repeat' split at h
  all_goals cases h
  all_goals rfl

theorem error_of_map_error {α β : Type} {f : α → β} {x : Except Condition α} {c : Condition}
    (h : x.map f = .error c) : x = .error c := by
  cases x with
  | ok v => cases h
  | error e => cases h; rfl

/-! ### Instructions of no link -/

/-- Under the type codes `tc`, `i` answers one response in every state, changes nothing else, and fails only with a
cause that is listed for it. -/
def AnswersAlone (i : Instr) (tc : TypeCodes) : Prop :=
  ∃ r, (∀ s : State, s.tc = tc → Answers i s r) ∧ ∀ c, r = .failed c → c ∈ i.mayRaise

theorem answersAlone_of_answer {i : Instr} {tc : TypeCodes} {x : Except Condition Result}
    (hexec : ∀ s : State, s.tc = tc → exec i s = s.answer x) (listed : ∀ c, x = .error c → c ∈ i.mayRaise) :
    AnswersAlone i tc := by
  cases x with
  | ok result => exact ⟨.done result, hexec, fun _ h => by cases h⟩
  | error c => exact ⟨.failed c, hexec, fun _ h => by cases h; exact listed c rfl⟩

theorem answersAlone_of_answerPacket {i : Instr} {tc : TypeCodes} {x : Except Condition PacketVariant}
    (hexec : ∀ s : State, s.tc = tc → exec i s = s.answerPacket x) (listed : ∀ c, x = .error c → c ∈ i.mayRaise) :
    AnswersAlone i tc :=
  answersAlone_of_answer hexec fun c h => listed c (error_of_map_error h)

/-- A BODY row with a layout fails with FRAMING only. -/
theorem answersAlone_of_rule {i : Instr} {tc : TypeCodes} (n : PacketType) {pl : Bytes}
    (hexec : ∀ s : State, exec i s = s.answerPacket (decodeNamed tc n pl)) (framing : i.mayRaise = [.framing]) :
    AnswersAlone i tc :=
  answersAlone_of_answerPacket (fun s _ => hexec s) fun c h => by
    rw [framing, decodeNamed_error h]
    exact List.mem_singleton_self _

/-- A BODY row without a layout does not fail. -/
theorem answersAlone_of_unknown {i : Instr} {tc : TypeCodes} (code : TypeCodes → Byte)
    (hexec : ∀ s : State, exec i s = s.answerPacket (decodeUnknown (code s.tc))) : AnswersAlone i tc :=
  answersAlone_of_answerPacket (x := decodeUnknown (code tc)) (fun s same => same ▸ hexec s) fun _ h => by cases h

/-- The causes of R101 are listed for the row of their variant. -/
theorem encFailure_mem_mayRaise (a : Byte) {p : PacketVariant} {c : Condition} (h : p.encFailure = some c) :
    c ∈ (encRow a p).mayRaise := by
  cases p with
  | unknown typeCode =>
    cases h
    exact List.mem_singleton_self _
  | batterySensor voltage current capacity remaining =>
    rw [PacketVariant.encFailure] at h
    split at h <;> cases h
    exact List.mem_singleton_self _
  | rpm sourceId values =>
    rw [PacketVariant.encFailure] at h
    split at h
    · cases h
      exact List.mem_cons_self
    · split at h <;> cases h
      exact List.mem_cons_of_mem _ (List.mem_singleton_self _)
  | rcChannelsPacked channels =>
    rw [PacketVariant.encFailure] at h
    split at h <;> cases h
    exact List.mem_singleton_self _
  | flightMode mode =>
    rw [PacketVariant.encFailure] at h
    split at h <;> cases h
    exact List.mem_singleton_self _
  | _ => cases h

/-- `ENC` may report what any of its rows may. -/
theorem mayRaise_encRow_subset (a : Byte) (p : PacketVariant) : (encRow a p).mayRaise ⊆ (Instr.enc a p).mayRaise := by
  cases p <;> simp [encRow, Instr.mayRaise]

/-- Sealing a variant's payload fails only as R101 lists. -/
theorem encFailure_of_encodeWith_error {a t : Byte} {p : PacketVariant} {c : Condition}
    (h : encodeWith a t (payloadOf p) = .error c) : p.encFailure = some c := by
  have sealable := sealable_encFailure p
  generalize p.encFailure = failure at sealable ⊢
  cases sealable with
  | fits payload short =>
    rw [payload, encodeWith_ok short] at h
    cases h
  | fails payload =>
    rw [payload] at h
    exact congrArg some (Except.error.inj h)
  | long payload long =>
    rw [payload, encodeWith_oversize long] at h
    exact congrArg some (Except.error.inj h)

theorem enc_answersAlone (a : Byte) (p : PacketVariant) (tc : TypeCodes) : AnswersAlone (.enc a p) tc := by
  refine answersAlone_of_answer (x := encodeWith a (p.codeByte tc) (payloadOf p)) ?_ fun c failed => ?_
  · rintro s rfl
    exact exec_enc a p s
  · exact mayRaise_encRow_subset a p (encFailure_mem_mayRaise a (encFailure_of_encodeWith_error failed))

theorem encRow_answersAlone (a : Byte) (p : PacketVariant) (tc : TypeCodes) : AnswersAlone (encRow a p) tc := by
  refine answersAlone_of_answer (x := encodeWith a (p.codeByte tc) (payloadOf p)) ?_ fun c failed => ?_
  · rintro s rfl
    rw [← exec_enc_eq_encRow, exec_enc]
  · exact encFailure_mem_mayRaise a (encFailure_of_encodeWith_error failed)

/-- Every instruction of no link answers from its operand and the type codes alone, and with its listed causes. -/
theorem answersAlone_of_linkOf_eq_none {i : Instr} (h : i.linkOf = none) (tc : TypeCodes) : AnswersAlone i tc := by
  cases i with
  | crc8 m => exact ⟨_, fun s _ => exec_crc8 m s, fun _ h => by cases h⟩
  | chPack ch =>
    refine answersAlone_of_answer (fun s _ => exec_chPack ch s) fun c failed => ?_
    rw [packChannels_error (error_of_map_error failed)]
    exact List.mem_singleton_self _
  | chUnpack b =>
    refine answersAlone_of_answer (fun s _ => exec_chUnpack b s) fun c failed => ?_
    rw [unpackChannels_error (error_of_map_error failed)]
    exact List.mem_singleton_self _
  | enc a p => exact enc_answersAlone a p tc
  | dec f =>
    refine answersAlone_of_answerPacket (x := decodeFrame tc f) (fun s same => same ▸ exec_dec f s) fun c failed => ?_
    rw [decodeFrame_error failed]
    exact List.mem_singleton_self _
  | decChk f =>
    exact answersAlone_of_answerPacket (x := decodeChecked tc f) (fun s same => same ▸ exec_decChk f s)
      fun c failed => decodeChecked_error failed
  | syncPush k chunk => cases h
  | syncReset k => cases h
  | decBody b =>
    refine answersAlone_of_answerPacket (x := decodeBody tc b) (fun s same => same ▸ exec_decBody b s) ?_
    intro c failed
    rw [decodeBody_error failed]
    exact List.mem_singleton_self _
  | wrap a body =>
    exact answersAlone_of_answer (fun s _ => exec_wrap a body s) fun c failed =>
      wrapBody_error (error_of_map_error failed)
  | encAttitude a pitch roll yaw => exact encRow_answersAlone a (.attitude pitch roll yaw) tc
  | encGps a lat lon speed heading alt sats => exact encRow_answersAlone a (.gps lat lon speed heading alt sats) tc
  | encBatterySensor a voltage current capacity remaining =>
    exact encRow_answersAlone a (.batterySensor voltage current capacity remaining) tc
  | encVario a verticalSpeed => exact encRow_answersAlone a (.vario verticalSpeed) tc
  | encFlightMode a mode => exact encRow_answersAlone a (.flightMode mode) tc
  | encBaroAlt a alt verticalSpeed => exact encRow_answersAlone a (.baroAlt alt verticalSpeed) tc
  | encAirspeed a speed => exact encRow_answersAlone a (.airspeed speed) tc
  | encRpm a sourceId values => exact encRow_answersAlone a (.rpm sourceId values) tc
  | encRcChannelsPacked a channels => exact encRow_answersAlone a (.rcChannelsPacked channels) tc
  | encUnknown a typeCode => exact encRow_answersAlone a (.unknown typeCode) tc
  | decBodyAttitude pl => exact answersAlone_of_rule .attitude (pl := pl) (fun _ => rfl) rfl
  | decBodyGps pl => exact answersAlone_of_rule .gps (pl := pl) (fun _ => rfl) rfl
  | decBodyBatterySensor pl => exact answersAlone_of_rule .batterySensor (pl := pl) (fun _ => rfl) rfl
  | decBodyVario pl => exact answersAlone_of_rule .vario (pl := pl) (fun _ => rfl) rfl
  | decBodyFlightMode pl => exact answersAlone_of_rule .flightMode (pl := pl) (fun _ => rfl) rfl
  | decBodyBaroAlt pl => exact answersAlone_of_rule .baroAlt (pl := pl) (fun _ => rfl) rfl
  | decBodyAirspeed pl => exact answersAlone_of_rule .airspeed (pl := pl) (fun _ => rfl) rfl
  | decBodyRpm pl => exact answersAlone_of_rule .rpm (pl := pl) (fun _ => rfl) rfl
  | decBodyRcChannelsPacked pl => exact answersAlone_of_rule .rcChannelsPacked (pl := pl) (fun _ => rfl) rfl
  | decBodyHeartbeat pl => exact answersAlone_of_unknown TypeCodes.heartbeat fun _ => rfl
  | decBodyTemp pl => exact answersAlone_of_unknown TypeCodes.temp fun _ => rfl
  | decBodyVoltages pl => exact answersAlone_of_unknown TypeCodes.voltages fun _ => rfl
  | decBodyVideoTransmitter pl => exact answersAlone_of_unknown TypeCodes.videoTransmitter fun _ => rfl
  | decBodyLinkStatistics pl => exact answersAlone_of_unknown TypeCodes.linkStatistics fun _ => rfl
  | decBodyLinkStatisticsRx pl => exact answersAlone_of_unknown TypeCodes.linkStatisticsRx fun _ => rfl
  | decBodyLinkStatisticsTx pl => exact answersAlone_of_unknown TypeCodes.linkStatisticsTx fun _ => rfl
  | decBodyDeviceInfo pl => exact answersAlone_of_unknown TypeCodes.deviceInfo fun _ => rfl
  | decBodyConfigRead pl => exact answersAlone_of_unknown TypeCodes.configRead fun _ => rfl
  | decBodyConfigWrite pl => exact answersAlone_of_unknown TypeCodes.configWrite fun _ => rfl
  | decBodyRadioId pl => exact answersAlone_of_unknown TypeCodes.radioId fun _ => rfl
  | decBodyUnknown t pl => exact answersAlone_of_unknown (fun _ => t) fun _ => rfl

/-- Settles O51: two states with the same type codes are asked the same question. -/
theorem pureOperationsAnswerFromTheirOperand : Obligations.PureOperationsAnswerFromTheirOperand := by
  intro i s t noLink same
  obtain ⟨r, answers, -⟩ := answersAlone_of_linkOf_eq_none noLink s.tc
  exact ⟨r, answers s rfl, answers t same.symm⟩

/-! ### Every instruction -/

/-- Only the two operations of the synchronizer address a link (10_state.md R18). -/
theorem eq_sync_of_linkOf_eq_some {i : Instr} {k : Nat} (h : i.linkOf = some k) :
    (∃ chunk, i = .syncPush k chunk) ∨ i = .syncReset k := by
  cases i with
  | syncPush link chunk =>
    cases h
    exact .inl ⟨chunk, rfl⟩
  | syncReset link =>
    cases h
    exact .inr rfl
  | _ => cases h

/-- On a link that is there both complete, leave that link at rest and everything else as it is. -/
theorem sync_completes {i : Instr} {s : State} {k : Nat} {l : Link} (hlink : i.linkOf = some k)
    (there : s.links[k]? = some l) : ∃ B result, (Link.mk l.syncAddr B).atRest = true ∧ exec i s =
      .next { s with links := s.links.set k ⟨l.syncAddr, B⟩, responses := s.responses ++ [.done result] } := by
  rcases eq_sync_of_linkOf_eq_some hlink with ⟨chunk, rfl⟩ | rfl
  · exact ⟨_, _, atRest_of_scans (scans_pushBytes l.syncAddr l.buf chunk), pushes_pushBytes chunk there⟩
  · exact ⟨[], .nothing, rfl, exec_syncReset there⟩

theorem sync_refused {i : Instr} {s : State} {k : Nat} (hlink : i.linkOf = some k) (absent : s.links.length ≤ k) :
    exec i s = .refused (.noSuchLink k) := by
  rcases eq_sync_of_linkOf_eq_some hlink with ⟨chunk, rfl⟩ | rfl
  · exact (missingLinkIsRefused k chunk s absent).1
  · exact (missingLinkIsRefused k [] s absent).2

/-- All that an instruction that completes can do: one more response and nothing else, a failure being a listed one; or,
for the two operations of the synchronizer, also one accumulator set to an at-rest shape. -/
theorem exec_next_cases {i : Instr} {s s' : State} (h : exec i s = .next s') :
    (∃ r, i.linkOf = none ∧ s' = { s with responses := s.responses ++ [r] } ∧
      ∀ c, r = .failed c → c ∈ i.mayRaise) ∨
    ∃ k l B result, i.linkOf = some k ∧ s.links[k]? = some l ∧ (Link.mk l.syncAddr B).atRest = true ∧
      s' = { s with links := s.links.set k ⟨l.syncAddr, B⟩, responses := s.responses ++ [.done result] } := by
  cases hlink : i.linkOf with
  | none =>
    obtain ⟨r, answers, listed⟩ := answersAlone_of_linkOf_eq_none hlink s.tc
    exact .inl ⟨r, rfl, Host.Outcome.next.inj (h.symm.trans (answers s rfl)), listed⟩
  | some k =>
    rcases Nat.lt_or_ge k s.links.length with inside | absent
    · have there := List.getElem?_eq_getElem inside
      obtain ⟨B, result, rest, completes⟩ := sync_completes hlink there
      exact .inr ⟨k, _, B, result, rfl, there, rest, Host.Outcome.next.inj (h.symm.trans completes)⟩
    · cases h.symm.trans (sync_refused hlink absent)

/-- Setting one link to its own sync byte keeps every sync byte. -/
theorem map_syncAddr_set {links : List Link} {k : Nat} {l : Link} (B : Memory) (h : links[k]? = some l) :
    (links.set k ⟨l.syncAddr, B⟩).map Link.syncAddr = links.map Link.syncAddr := by
  obtain ⟨inside, rfl⟩ := List.getElem?_eq_some_iff.1 h
  rw [List.map_set]
  simp only [← List.getElem_map Link.syncAddr (h := by simpa using inside), List.set_getElem_self]

/-- Settles O49: both ways of `exec_next_cases` keep all but the responses and the addressed link's accumulator. -/
theorem onlyTheSynchronizerChangesAccumulators : Obligations.OnlyTheSynchronizerChangesAccumulators := by
  intro i s s' next
  rcases exec_next_cases next with ⟨r, -, rfl, -⟩ | ⟨k, l, B, result, hlink, there, -, rfl⟩
  · exact ⟨rfl, rfl, rfl, ⟨r, rfl⟩, fun _ _ => rfl⟩
  · refine ⟨rfl, rfl, map_syncAddr_set B there, ⟨_, rfl⟩, fun j other => List.getElem?_set_ne fun same => ?_⟩
    exact other (same ▸ hlink)

/-- Settles O52: an instruction of no link answers, and the others complete on a link that is there. -/
theorem noOperationTraps : Obligations.NoOperationTraps := by
  intro i s there
  cases hlink : i.linkOf with
  | none =>
    obtain ⟨r, answers, -⟩ := answersAlone_of_linkOf_eq_none hlink s.tc
    exact ⟨_, answers s rfl⟩
  | some k =>
    obtain ⟨B, result, -, completes⟩ := sync_completes hlink (List.getElem?_eq_getElem (there k hlink))
    exact ⟨_, completes⟩

/-- The codes of R191: 7 is no cause, and 0 is success (D20). -/
theorem cause_code (r : Response) : r.cause ≠ 7 ∧ (r.cause = 0 ↔ r.ok = true) := by
  cases r with
  | done result => exact ⟨(by decide : (0 : BitVec 3) ≠ 7), iff_of_true rfl rfl⟩
  | failed c => cases c <;> decide

/-- Settles O53: the last response is the instruction's own, and `exec_next_cases` bounds its cause. -/
theorem onlyListedCausesAreReported : Obligations.OnlyListedCausesAreReported := by
  intro i s s' r next last
  refine ⟨fun c failed => ?_, cause_code r⟩
  rcases exec_next_cases next with ⟨r', -, rfl, listed⟩ | ⟨k, l, B, result, -, -, -, rfl⟩
  · rw [List.getLast?_concat] at last
    exact listed c ((Option.some.inj last).trans failed)
  · rw [List.getLast?_concat] at last
    cases (Option.some.inj last).trans failed

/-! ### The invariant -/

/-- An instruction keeps the invariant: the type codes stay, and the only link it sets is left at rest (R13, R55). -/
theorem exec_keeps_inv {i : Instr} {s s' : State} (h : s.Inv) (next : exec i s = .next s') : s'.Inv := by
  obtain ⟨distinct, atRest⟩ := h
  rcases exec_next_cases next with ⟨r, -, rfl, -⟩ | ⟨k, l, B, result, -, -, leftAtRest, rfl⟩
  · exact ⟨distinct, atRest⟩
  · refine ⟨distinct, fun l' hl' => ?_⟩
    rcases List.mem_or_eq_of_mem_set hl' with before | rfl
    · exact atRest l' before
    · exact leftAtRest

/-- All that a step with a next state can do: nothing, with nothing pending, or run an instruction. -/
theorem step_next_cases {s s' : State} (h : step s = .next s') :
    (s.requests = [] ∧ s' = s) ∨
    ∃ r rest i, s.requests = r :: rest ∧ decode s.tc r = .ok i ∧ exec i { s with requests := rest } = .next s' := by
  rw [step] at h
  split at h
  next idle => exact .inl ⟨idle, (Host.Outcome.next.inj h).symm⟩
  next r rest pending =>
    split at h
    next e rejected => cases h
    next i decoded => exact .inr ⟨r, rest, i, pending, decoded, h⟩

/-- Settles O54: taking a request leaves the links and the type codes, and the instruction keeps the invariant. -/
theorem everyStepKeepsTheInvariant : Obligations.EveryStepKeepsTheInvariant := by
  intro s s' good next
  rcases step_next_cases next with ⟨-, rfl⟩ | ⟨r, rest, i, -, -, run⟩
  · exact good
  · exact exec_keeps_inv (s := { s with requests := rest }) good run

theorem mem_reset_links {l : Link} (h : l ∈ State.reset.links) : l = Link.fresh Config.defaultSyncAddr :=
  List.eq_of_mem_replicate h

theorem distinct_defaultTypeCodes : Config.defaultTypeCodes.distinct = true := by decide

/-- Settles O55: every link is a fresh one, and a fresh link is at rest because it is empty. -/
theorem resetIsEmptyAndGood : Obligations.ResetIsEmptyAndGood :=
  ⟨⟨distinct_defaultTypeCodes, fun _ hl => mem_reset_links hl ▸ rfl⟩, fun _ hl => mem_reset_links hl ▸ rfl, rfl, rfl⟩

/-! ### One step -/

/-- Settles O56: the step takes the request, and its decoding is the instruction that runs. -/
theorem stepRunsTheDecodedInstruction : Obligations.StepRunsTheDecodedInstruction := by
  intro r rest i s pending decoded
  rw [step, pending]
  simp only [decoded]

theorem step_badRequest {s : State} {r : Bytes} {rest : List Bytes} {e : DecodeError} (pending : s.requests = r :: rest)
    (rejected : decode s.tc r = .error e) : step s = .refused (.badRequest e) := by
  rw [step, pending]
  simp only [rejected]

/-- A select byte of form 0 is its select, zero-extended. -/
theorem extractLsb'_setWidth (op : BitVec 4) :
    ((op.setWidth 8).extractLsb' 4 4).toNat = 0 ∧ (op.setWidth 8).extractLsb' 0 4 = op := by
  revert op
  decide

/-- Every select from 0xA to 0xF is unassigned (R69). -/
theorem decode_unassigned (tc : TypeCodes) {op : BitVec 4} (operand : Bytes) (h : 10 ≤ op.toNat) :
    decode tc (op.setWidth 8 :: operand) = .error (.unassignedSelect op) := by
  obtain ⟨form, select⟩ := extractLsb'_setWidth op
  obtain ⟨n, beyond⟩ := Nat.exists_eq_add_of_le' h
  rw [decode, form, select]
  simp only [decodeOp, beyond]

/-- Settles O57: the three ways a step runs no instruction. -/
theorem stepRefusesUndecodableRequests : Obligations.StepRefusesUndecodableRequests := by
  intro s
  refine ⟨fun idle => by rw [step, idle], fun r rest e pending rejected => step_badRequest pending rejected, ?_⟩
  exact fun op operand rest beyond pending => step_badRequest pending (decode_unassigned s.tc operand beyond)

end Sys2Proof.Proofs
end

section
/-! PROOFS. The request port (30_encoding.md R69, R70; log entry 1): the fields of a variant are read where they are
written and written where they are read, so an `ENC` operand and its address and variant determine each other. -/

open Sys2Proof.Machine Sys2Proof.Claims

namespace Sys2Proof.Proofs

/-! ### A word written and read -/

theorem bytes2_num2 (a b : Byte) : bytes2 (num2 a b) = [a, b] := by
  have ha := a.isLt
  have hb := b.isLt
  simp only [bytes2, byteOf, num2, List.cons.injEq, and_true]
  refine ⟨BitVec.eq_of_toNat_eq ?_, BitVec.eq_of_toNat_eq ?_⟩ <;> rw [BitVec.toNat_ofNat] <;> omega

theorem bytes4_num4 (a b c d : Byte) : bytes4 (num4 a b c d) = [a, b, c, d] := by
  have ha := a.isLt
  have hb := b.isLt
  have hc := c.isLt
  have hd := d.isLt
  simp only [bytes4, byteOf, num4, List.cons.injEq, and_true]
  refine ⟨BitVec.eq_of_toNat_eq ?_, BitVec.eq_of_toNat_eq ?_, BitVec.eq_of_toNat_eq ?_, BitVec.eq_of_toNat_eq ?_⟩ <;>
    rw [BitVec.toNat_ofNat] <;> omega

theorem be16_ube16 (f : Bytes) (o : Nat) : be16 (ube16 f o) = [byteAt f o, byteAt f (o + 1)] := by
  rw [be16_eq_bytes2, toNat_ube16]
  exact bytes2_num2 _ _

theorem be32_ube32 (f : Bytes) (o : Nat) :
    be32 (ube32 f o) = [byteAt f o, byteAt f (o + 1), byteAt f (o + 2), byteAt f (o + 3)] := by
  rw [be32_eq_bytes4, toNat_ube32]
  exact bytes4_num4 _ _ _ _

/-- A byte string is its bytes. -/
theorem range_map_byteAt {f : Bytes} {n : Nat} (h : f.length = n) : (List.range n).map (byteAt f) = f := by
  apply List.ext_getElem
  · simpa using h.symm
  · intro i _ inside
    simp [byteAt, inside]

/-! ### Words in a row -/

/-- Skipping whole words skips that many values. -/
theorem drop_flatMap_of_length {α : Type} {w : Nat} {write : α → Bytes} (hlen : ∀ v, (write v).length = w)
    (vs : List α) (i : Nat) : (vs.flatMap write).drop (w * i) = (vs.drop i).flatMap write := by
  induction vs generalizing i with
  | nil => simp
  | cons v vs ih =>
    cases i with
    | zero => rfl
    | succ i =>
      rw [List.flatMap_cons, Nat.mul_succ, Nat.add_comm, ← List.drop_drop, List.drop_left' (hlen v), ih,
        List.drop_succ_cons]

theorem drop_flatMap_eq_append {α : Type} {w : Nat} {write : α → Bytes} (hlen : ∀ v, (write v).length = w)
    {vs : List α} {i : Nat} (h : i < vs.length) :
    (vs.flatMap write).drop (w * i) = write vs[i] ++ (vs.drop (i + 1)).flatMap write := by
  rw [drop_flatMap_of_length hlen, List.drop_eq_getElem_cons h, List.flatMap_cons]

theorem ube16_flatMap_be16 {vs : List U16} {i : Nat} (h : i < vs.length) :
    ube16 (vs.flatMap be16) (2 * i) = vs[i] :=
  ube16_of_drop (drop_flatMap_eq_append length_be16 h)

theorem ube32_cons_flatMap_be32 (source : Byte) {vs : List U32} {i : Nat} (h : i < vs.length) :
    ube32 (source :: vs.flatMap be32) (1 + 4 * i) = vs[i] := by
  refine ube32_of_drop (r := (vs.drop (i + 1)).flatMap be32) ?_
  rw [Nat.add_comm, List.drop_succ_cons, drop_flatMap_eq_append length_be32 h]

theorem ube16_drop (f : Bytes) (o k : Nat) : ube16 (f.drop o) k = ube16 f (o + k) := by
  simp only [ube16, byteAt_drop, Nat.add_assoc]

theorem ube32_drop (f : Bytes) (o k : Nat) : ube32 (f.drop o) k = ube32 f (o + k) := by
  simp only [ube32, byteAt_drop, Nat.add_assoc]

/-- Writing the words read, one after the other, gives the bytes back. -/
theorem flatMap_map_range {α : Type} {w : Nat} {write : α → Bytes} {read : Bytes → Nat → α}
    (hdrop : ∀ f o k, read (f.drop o) k = read f (o + k)) (hread : ∀ f, w ≤ f.length → write (read f 0) = f.take w)
    (n : Nat) {f : Bytes} (h : f.length = w * n) : ((List.range n).map fun i => read f (w * i)).flatMap write = f := by
  induction n generalizing f with
  | zero => exact (List.length_eq_zero_iff.1 h).symm
  | succ n ih =>
    rw [Nat.mul_succ] at h
    have first : write (read f (w * 0)) = f.take w := hread f (by omega)
    have later : (fun i => read f (w * (i + 1))) = fun i => read (f.drop w) (w * i) := by
      funext i
      rw [hdrop, Nat.mul_succ, Nat.add_comm]
    have rest := ih (f := f.drop w) (by rw [List.length_drop]; omega)
    rw [List.range_succ_eq_map, List.map_cons, List.map_map, List.flatMap_cons, first]
    simp only [Function.comp_def, Nat.succ_eq_add_one, later, rest]
    exact List.take_append_drop w f

theorem flatMap_be16_ube16 (n : Nat) {f : Bytes} (h : f.length = 2 * n) :
    ((List.range n).map fun i => ube16 f (2 * i)).flatMap be16 = f := by
  refine flatMap_map_range ube16_drop (fun f enough => ?_) n h
  match f, enough with
  | _ :: _ :: _, _ => exact be16_ube16 _ 0

theorem flatMap_be32_ube32 (n : Nat) {f : Bytes} (h : f.length = 4 * n) :
    ((List.range n).map fun i => ube32 f (4 * i)).flatMap be32 = f := by
  refine flatMap_map_range ube32_drop (fun f enough => ?_) n h
  match f, enough with
  | _ :: _ :: _ :: _ :: _, _ => exact be32_ube32 _ 0

/-! ### Sixteen channels on the port -/

/-- The channels a request carries, read back. -/
theorem ofFn_ube16_flatMap_be16 (ch : Channels) :
    (Vector.ofFn fun i : Fin 16 => ube16 (ch.toList.flatMap be16) (2 * i.val)) = ch := by
  apply Vector.ext
  intro i hi
  rw [Vector.getElem_ofFn, ube16_flatMap_be16 (by simpa using hi)]
  simp

theorem length_channels_be16 (ch : Channels) : (ch.toList.flatMap be16).length = 32 := by
  rw [length_flatMap_be16, Vector.length_toList]

/-- Thirty-two bytes read as channels, written back. -/
theorem flatMap_be16_ofFn_ube16 {f : Bytes} (h : f.length = 32) :
    (Vector.ofFn fun i : Fin 16 => ube16 f (2 * i.val)).toList.flatMap be16 = f := by
  have words : (Vector.ofFn fun i : Fin 16 => ube16 f (2 * i.val)).toList =
      (List.range 16).map fun i => ube16 f (2 * i) := by
    apply List.ext_getElem <;> simp
  rw [words]
  exact flatMap_be16_ube16 16 h

/-! ### The fields of a variant -/

/-- The fields written are the fields read. -/
theorem decodeFields_fieldBytes {p : PacketVariant} {n : PacketType} (h : p.packetType = some n) :
    decodeFields n p.fieldBytes = some p := by
  cases p with
  | attitude pitch roll yaw =>
    cases h
    rw [decodeFields, if_pos (by rfl), Option.some.injEq, PacketVariant.attitude.injEq]
    exact ⟨ube16_of_drop rfl, ube16_of_drop rfl, ube16_of_drop rfl⟩
  | gps lat lon speed heading alt sats =>
    cases h
    rw [decodeFields, if_pos (by rfl), Option.some.injEq, PacketVariant.gps.injEq]
    exact ⟨ube32_of_drop rfl, ube32_of_drop rfl, ube16_of_drop rfl, ube16_of_drop rfl, ube16_of_drop rfl,
      byteAt_of_drop rfl⟩
  | batterySensor voltage current capacity remaining =>
    cases h
    rw [decodeFields, if_pos (by rfl), Option.some.injEq, PacketVariant.batterySensor.injEq]
    exact ⟨ube16_of_drop rfl, ube16_of_drop rfl, ube32_of_drop rfl, byteAt_of_drop rfl⟩
  | vario verticalSpeed =>
    cases h
    rw [decodeFields, if_pos (by rfl), Option.some.injEq, PacketVariant.vario.injEq]
    exact ube16_of_drop rfl
  | flightMode mode =>
    cases h
    rfl
  | baroAlt alt verticalSpeed =>
    cases h
    rw [decodeFields, if_pos (by rfl), Option.some.injEq, PacketVariant.baroAlt.injEq]
    exact ⟨ube16_of_drop rfl, byteAt_of_drop rfl⟩
  | airspeed speed =>
    cases h
    rw [decodeFields, if_pos (by rfl), Option.some.injEq, PacketVariant.airspeed.injEq]
    exact ube16_of_drop rfl
  | rpm sourceId values =>
    cases h
    have hlen : (sourceId :: values.flatMap be32).length = 4 * values.length + 1 := by
      rw [List.length_cons, length_flatMap_be32]
    have count : (sourceId :: values.flatMap be32).length / 4 = values.length := by omega
    rw [PacketVariant.fieldBytes, decodeFields, if_pos (by omega), count, Option.some.injEq, PacketVariant.rpm.injEq]
    refine ⟨rfl, List.ext_getElem (by simp) fun i _ inside => ?_⟩
    simpa using ube32_cons_flatMap_be32 sourceId inside
  | rcChannelsPacked channels =>
    cases h
    rw [PacketVariant.fieldBytes, decodeFields, if_pos (length_channels_be16 channels),
      ofFn_ube16_flatMap_be16 channels]
  | unknown typeCode => cases h

/-- The fields read are the fields written: no byte of them is ignored. -/
theorem fieldBytes_of_decodeFields {n : PacketType} {f : Bytes} {p : PacketVariant} (h : decodeFields n f = some p) :
    p.packetType = some n ∧ p.fieldBytes = f := by
  cases n with
  | attitude | gps | batterySensor | vario | baroAlt | airspeed =>
    rw [decodeFields] at h
    split at h <;> cases h
    next hlen =>
      simp only [PacketVariant.fieldBytes, be16_ube16, be32_ube32]
      exact ⟨rfl, range_map_byteAt hlen⟩
  | flightMode =>
    cases h
    exact ⟨rfl, rfl⟩
  | rpm =>
    rw [decodeFields] at h
    split at h <;> cases h
    next hlen =>
      obtain ⟨source, words, rfl⟩ := List.exists_cons_of_ne_nil (l := f) (by rintro rfl; cases hlen)
      rw [List.length_cons] at hlen
      have count : (source :: words).length / 4 = words.length / 4 := by
        rw [List.length_cons]
        omega
      have read (i : Nat) : ube32 (source :: words) (1 + 4 * i) = ube32 words (4 * i) :=
        (ube32_drop (source :: words) 1 (4 * i)).symm
      refine ⟨rfl, congrArg (source :: ·) ?_⟩
      simp only [count, read]
      exact flatMap_be32_ube32 _ (by omega)
  | rcChannelsPacked =>
    rw [decodeFields] at h
    split at h <;> cases h
    next hlen => exact ⟨rfl, flatMap_be16_ofFn_ube16 hlen⟩
  | _ => cases h

/-! ### The `ENC` operand -/

/-- A variant with a name is tagged 0, and its name has a layout (R70). -/
theorem tagByte_of_packetType {p : PacketVariant} {n : PacketType} (h : p.packetType = some n) :
    p.tagByte = 0 ∧ n.handled = true := by
  cases p <;> cases h <;> exact ⟨rfl, rfl⟩

theorem eq_unknown_of_packetType_eq_none {p : PacketVariant} (h : p.packetType = none) : ∃ t, p = .unknown t := by
  cases p with
  | unknown typeCode => exact ⟨typeCode, rfl⟩
  | _ => cases h

/-- Tag, code and fields of a variant are read as that variant. -/
theorem decodeVariant_encoded {tc : TypeCodes} (distinct : tc.distinct = true) (p : PacketVariant) :
    decodeVariant tc p.tagByte (p.codeByte tc) p.fieldBytes = .ok p := by
  cases name : p.packetType with
  | none =>
    obtain ⟨t, rfl⟩ := eq_unknown_of_packetType_eq_none name
    rfl
  | some n =>
    obtain ⟨tag, handled⟩ := tagByte_of_packetType name
    rw [decodeVariant, tag, if_neg (by decide), if_pos rfl, codeByte_of_packetType tc name, lookup_code distinct]
    simp only [handled, if_true, decodeFields_fieldBytes name]

/-- What is read as a variant is that variant's tag, code and fields: every bit of the tag counts (R70). -/
theorem encoded_of_decodeVariant {tc : TypeCodes} {tag code : Byte} {f : Bytes} {p : PacketVariant}
    (h : decodeVariant tc tag code f = .ok p) : p.tagByte = tag ∧ p.codeByte tc = code ∧ p.fieldBytes = f := by
  rw [decodeVariant] at h
  split at h
  next isUnknown =>
    split at h <;> cases h
    next noFields => exact ⟨isUnknown.symm, rfl, noFields.symm⟩
  next =>
    split at h
    next isNamed =>
      split at h
      next => cases h
      next n found =>
        split at h
        next =>
          split at h <;> cases h
          next fields =>
            obtain ⟨name, bytes⟩ := fieldBytes_of_decodeFields fields
            refine ⟨(tagByte_of_packetType name).1.trans isNamed.symm, ?_, bytes⟩
            exact (codeByte_of_packetType tc name).trans (code_of_lookup found)
        next => cases h
    next => cases h

theorem decodeEncOperand_encOperand {tc : TypeCodes} (distinct : tc.distinct = true) (a : Byte) (p : PacketVariant) :
    decodeEncOperand tc (encOperand tc a p) = .ok (a, p) := by
  rw [encOperand, decodeEncOperand, decodeVariant_encoded distinct]

theorem encOperand_of_decodeEncOperand {tc : TypeCodes} {operand : Bytes} {a : Byte} {p : PacketVariant}
    (h : decodeEncOperand tc operand = .ok (a, p)) : encOperand tc a p = operand := by
  match operand, h with
  | address :: tag :: code :: f, h =>
    rw [decodeEncOperand] at h
    split at h <;> cases h
    next variant =>
      obtain ⟨rfl, rfl, rfl⟩ := encoded_of_decodeVariant variant
      rfl

end Sys2Proof.Proofs
end

section
/-! PROOFS. Decode and encode agree (30_encoding.md R69, R70; log entry 1): every well-formed instruction is what its
request decodes to, and every request that decodes is the encoding of a well-formed instruction. -/

open Sys2Proof.Machine Sys2Proof.Claims

namespace Sys2Proof.Proofs

/-! ### The BODY rows by name -/

/-- The BODY row of a name. -/
def namedRow (n : PacketType) (payload : Bytes) : Instr :=
  match n with
  | .attitude => .decBodyAttitude payload
  | .gps => .decBodyGps payload
  | .batterySensor => .decBodyBatterySensor payload
  | .vario => .decBodyVario payload
  | .flightMode => .decBodyFlightMode payload
  | .baroAlt => .decBodyBaroAlt payload
  | .airspeed => .decBodyAirspeed payload
  | .rpm => .decBodyRpm payload
  | .rcChannelsPacked => .decBodyRcChannelsPacked payload
  | .heartbeat => .decBodyHeartbeat payload
  | .temp => .decBodyTemp payload
  | .voltages => .decBodyVoltages payload
  | .videoTransmitter => .decBodyVideoTransmitter payload
  | .linkStatistics => .decBodyLinkStatistics payload
  | .linkStatisticsRx => .decBodyLinkStatisticsRx payload
  | .linkStatisticsTx => .decBodyLinkStatisticsTx payload
  | .deviceInfo => .decBodyDeviceInfo payload
  | .configRead => .decBodyConfigRead payload
  | .configWrite => .decBodyConfigWrite payload
  | .radioId => .decBodyRadioId payload

theorem bodyRow_of_lookup {tc : TypeCodes} {t : Byte} {n : PacketType} (pl : Bytes) (h : tc.lookup t = some n) :
    bodyRow tc t pl = namedRow n pl := by
  rw [bodyRow, h]
  cases n <;> rfl

theorem bodyRow_of_lookup_eq_none {tc : TypeCodes} {t : Byte} (pl : Bytes) (h : tc.lookup t = none) :
    bodyRow tc t pl = .decBodyUnknown t pl := by
  rw [bodyRow, h]

theorem encode_namedRow (tc : TypeCodes) (n : PacketType) (pl : Bytes) :
    encode tc (namedRow n pl) = 0x18 :: tc.code n :: pl := by
  cases n <;> rfl

theorem wellFormed_namedRow (tc : TypeCodes) (n : PacketType) (pl : Bytes) :
    (namedRow n pl).wellFormed tc = true := by
  cases n <;> rfl

/-! ### The ENC_VARIANT rows -/

theorem encode_encRow (tc : TypeCodes) (a : Byte) (p : PacketVariant) :
    encode tc (encRow a p) = 0x13 :: encOperand tc a p := by
  cases p <;> rfl

theorem wellFormed_encRow (tc : TypeCodes) (a : Byte) (p : PacketVariant) : (encRow a p).wellFormed tc = true := by
  cases p <;> rfl

/-! ### Decoding a request that was encoded -/

theorem decode_enc (tc : TypeCodes) (operand : Bytes) :
    decode tc (0x03 :: operand) = (decodeEncOperand tc operand).map fun x => .enc x.1 x.2 := by
  have select : decode tc (0x03 :: operand) = decodeOp tc 0x3 operand := rfl
  rw [select, decodeOp.eq_def]
  cases decodeEncOperand tc operand <;> rfl

theorem decode_encRow (tc : TypeCodes) (operand : Bytes) :
    decode tc (0x13 :: operand) = (decodeEncOperand tc operand).map fun x => encRow x.1 x.2 := by
  have select : decode tc (0x13 :: operand) = decodeRow tc 0x13 operand := rfl
  rw [select, decodeRow.eq_def]
  cases decodeEncOperand tc operand <;> rfl

theorem decode_bodyRow (tc : TypeCodes) (t : Byte) (pl : Bytes) :
    decode tc (0x18 :: t :: pl) = .ok (bodyRow tc t pl) := rfl

theorem decode_encode_encRow {tc : TypeCodes} (distinct : tc.distinct = true) (a : Byte) (p : PacketVariant) :
    decode tc (encode tc (encRow a p)) = .ok (encRow a p) := by
  rw [encode_encRow, decode_encRow, decodeEncOperand_encOperand distinct]
  rfl

theorem decode_encode_namedRow {tc : TypeCodes} (distinct : tc.distinct = true) (n : PacketType) (pl : Bytes) :
    decode tc (encode tc (namedRow n pl)) = .ok (namedRow n pl) := by
  rw [encode_namedRow, decode_bodyRow, bodyRow_of_lookup pl (lookup_code distinct n)]

theorem decode_encode_chPack (tc : TypeCodes) (ch : Channels) :
    decode tc (encode tc (.chPack ch)) = .ok (.chPack ch) := by
  have select : decode tc (encode tc (.chPack ch)) = decodeOp tc 0x1 (ch.toList.flatMap be16) := rfl
  rw [select, decodeOp.eq_def]
  simp only [length_channels_be16, ofFn_ube16_flatMap_be16]
  rfl

/-- A link number that fits its byte is read back. -/
theorem toNat_linkByte {link : Nat} (h : linkFits link = true) : (linkByte link).toNat = link := by
  rw [linkByte, BitVec.toNat_ofNat, Nat.mod_eq_of_lt (of_decide_eq_true h)]

/-- Settles O58: the byte-string operands are the rest of the request, and the others are read as they were written. -/
theorem decodeInvertsEncode : Obligations.DecodeInvertsEncode := by
  intro tc i distinct wf
  cases i with
  | crc8 m => rfl
  | chPack ch => exact decode_encode_chPack tc ch
  | chUnpack b => rfl
  | enc a p =>
    rw [encode, decode_enc, decodeEncOperand_encOperand distinct]
    rfl
  | dec f => rfl
  | decChk f => rfl
  | syncPush link chunk => exact congrArg (fun k => Except.ok (Instr.syncPush k chunk)) (toNat_linkByte wf)
  | syncReset link => exact congrArg (fun k => Except.ok (Instr.syncReset k)) (toNat_linkByte wf)
  | decBody b => rfl
  | wrap a body => rfl
  | encAttitude a pitch roll yaw => exact decode_encode_encRow distinct a (.attitude pitch roll yaw)
  | encGps a lat lon speed heading alt sats =>
    exact decode_encode_encRow distinct a (.gps lat lon speed heading alt sats)
  | encBatterySensor a voltage current capacity remaining =>
    exact decode_encode_encRow distinct a (.batterySensor voltage current capacity remaining)
  | encVario a verticalSpeed => exact decode_encode_encRow distinct a (.vario verticalSpeed)
  | encFlightMode a mode => exact decode_encode_encRow distinct a (.flightMode mode)
  | encBaroAlt a alt verticalSpeed => exact decode_encode_encRow distinct a (.baroAlt alt verticalSpeed)
  | encAirspeed a speed => exact decode_encode_encRow distinct a (.airspeed speed)
  | encRpm a sourceId values => exact decode_encode_encRow distinct a (.rpm sourceId values)
  | encRcChannelsPacked a channels => exact decode_encode_encRow distinct a (.rcChannelsPacked channels)
  | encUnknown a typeCode => exact decode_encode_encRow distinct a (.unknown typeCode)
  | decBodyAttitude pl => exact decode_encode_namedRow distinct .attitude pl
  | decBodyGps pl => exact decode_encode_namedRow distinct .gps pl
  | decBodyBatterySensor pl => exact decode_encode_namedRow distinct .batterySensor pl
  | decBodyVario pl => exact decode_encode_namedRow distinct .vario pl
  | decBodyFlightMode pl => exact decode_encode_namedRow distinct .flightMode pl
  | decBodyBaroAlt pl => exact decode_encode_namedRow distinct .baroAlt pl
  | decBodyAirspeed pl => exact decode_encode_namedRow distinct .airspeed pl
  | decBodyRpm pl => exact decode_encode_namedRow distinct .rpm pl
  | decBodyRcChannelsPacked pl => exact decode_encode_namedRow distinct .rcChannelsPacked pl
  | decBodyHeartbeat pl => exact decode_encode_namedRow distinct .heartbeat pl
  | decBodyTemp pl => exact decode_encode_namedRow distinct .temp pl
  | decBodyVoltages pl => exact decode_encode_namedRow distinct .voltages pl
  | decBodyVideoTransmitter pl => exact decode_encode_namedRow distinct .videoTransmitter pl
  | decBodyLinkStatistics pl => exact decode_encode_namedRow distinct .linkStatistics pl
  | decBodyLinkStatisticsRx pl => exact decode_encode_namedRow distinct .linkStatisticsRx pl
  | decBodyLinkStatisticsTx pl => exact decode_encode_namedRow distinct .linkStatisticsTx pl
  | decBodyDeviceInfo pl => exact decode_encode_namedRow distinct .deviceInfo pl
  | decBodyConfigRead pl => exact decode_encode_namedRow distinct .configRead pl
  | decBodyConfigWrite pl => exact decode_encode_namedRow distinct .configWrite pl
  | decBodyRadioId pl => exact decode_encode_namedRow distinct .radioId pl
  | decBodyUnknown t pl =>
    exact congrArg Except.ok (bodyRow_of_lookup_eq_none pl (Option.isNone_iff_eq_none.1 wf))

/-! ### Encoding a request that decoded -/

/-- `r` is the request of `i`, and `i` can be written down. -/
def IsRequestOf (tc : TypeCodes) (r : Bytes) (i : Instr) : Prop := encode tc i = r ∧ i.wellFormed tc = true

/-- The first byte is its form and its select: no bit of it is free. -/
theorem select_eq_of_form_zero {select : Byte} (h : (select.extractLsb' 4 4).toNat = 0) :
    select = (select.extractLsb' 0 4).setWidth 8 := by
  revert select
  decide

theorem select_eq_of_form_one {select : Byte} (h : (select.extractLsb' 4 4).toNat = 1) :
    select = 0x10 + (select.extractLsb' 0 4).setWidth 8 := by
  revert select
  decide

theorem linkFits_toNat (b : Byte) : linkFits b.toNat = true := decide_eq_true b.isLt

theorem linkByte_toNat (b : Byte) : linkByte b.toNat = b := (BitVec.ofNat_toNat 8 b).trans (BitVec.setWidth_eq b)

/-- An OP row carries its select and its operand. -/
theorem isRequestOf_of_decodeOp {tc : TypeCodes} {op : BitVec 4} {operand : Bytes} {i : Instr}
    (h : decodeOp tc op operand = .ok i) : IsRequestOf tc (op.setWidth 8 :: operand) i := by
  rw [decodeOp.eq_def] at h
  split at h
  case h_1 select =>
    obtain rfl : op = 0x0 := BitVec.eq_of_toNat_eq select
    cases h
    exact ⟨rfl, rfl⟩
  case h_2 select =>
    obtain rfl : op = 0x1 := BitVec.eq_of_toNat_eq select
    split at h <;> cases h
    next hlen => exact ⟨congrArg (0x01 :: ·) (flatMap_be16_ofFn_ube16 hlen), rfl⟩
  case h_3 select =>
    obtain rfl : op = 0x2 := BitVec.eq_of_toNat_eq select
    cases h
    exact ⟨rfl, rfl⟩
  case h_4 select =>
    obtain rfl : op = 0x3 := BitVec.eq_of_toNat_eq select
    split at h <;> cases h
    next decoded => exact ⟨congrArg (0x03 :: ·) (encOperand_of_decodeEncOperand decoded), rfl⟩
  case h_5 select =>
    obtain rfl : op = 0x4 := BitVec.eq_of_toNat_eq select
    cases h
    exact ⟨rfl, rfl⟩
  case h_6 select =>
    obtain rfl : op = 0x5 := BitVec.eq_of_toNat_eq select
    cases h
    exact ⟨rfl, rfl⟩
  case h_7 select =>
    obtain rfl : op = 0x6 := BitVec.eq_of_toNat_eq select
    split at h <;> cases h
    next link chunk => exact ⟨congrArg (0x06 :: · :: chunk) (linkByte_toNat link), linkFits_toNat link⟩
  case h_8 select =>
    obtain rfl : op = 0x7 := BitVec.eq_of_toNat_eq select
    split at h <;> cases h
    next link => exact ⟨congrArg ([0x07, ·]) (linkByte_toNat link), linkFits_toNat link⟩
  case h_9 select =>
    obtain rfl : op = 0x8 := BitVec.eq_of_toNat_eq select
    cases h
    exact ⟨rfl, rfl⟩
  case h_10 select =>
    obtain rfl : op = 0x9 := BitVec.eq_of_toNat_eq select
    split at h <;> cases h
    exact ⟨rfl, rfl⟩
  case h_11 => cases h

/-- The BODY row a type byte selects carries that byte, named or not. -/
theorem isRequestOf_bodyRow (tc : TypeCodes) (t : Byte) (pl : Bytes) :
    IsRequestOf tc (0x18 :: t :: pl) (bodyRow tc t pl) := by
  cases found : tc.lookup t with
  | some n =>
    rw [bodyRow_of_lookup pl found, ← code_of_lookup found]
    exact ⟨encode_namedRow tc n pl, wellFormed_namedRow tc n pl⟩
  | none =>
    rw [bodyRow_of_lookup_eq_none pl found]
    exact ⟨rfl, Option.isNone_iff_eq_none.2 found⟩

/-- An ENC_VARIANT or BODY row carries its form and select and its operand. -/
theorem isRequestOf_of_decodeRow {tc : TypeCodes} {select : Byte} {operand : Bytes} {i : Instr}
    (form : (select.extractLsb' 4 4).toNat = 1) (h : decodeRow tc select operand = .ok i) :
    IsRequestOf tc (select :: operand) i := by
  have whole := select_eq_of_form_one form
  rw [decodeRow.eq_def] at h
  split at h
  case h_1 low =>
    rw [BitVec.eq_of_toNat_eq (y := 0x3#4) low] at whole
    obtain rfl : select = 0x13 := whole
    split at h <;> cases h
    next a p decoded =>
      rw [← encOperand_of_decodeEncOperand decoded]
      exact ⟨encode_encRow tc a p, wellFormed_encRow tc a p⟩
  case h_2 low =>
    rw [BitVec.eq_of_toNat_eq (y := 0x8#4) low] at whole
    obtain rfl : select = 0x18 := whole
    split at h <;> cases h
    next t pl => exact isRequestOf_bodyRow tc t pl
  case h_3 => cases h

/-- Settles O59: the form tells which table the request was read by, and both tables accept encodings only. -/
theorem decoderAcceptsOnlyEncodings : Obligations.DecoderAcceptsOnlyEncodings := by
  intro tc r i h
  cases r with
  | nil => cases h
  | cons select operand =>
    rw [decode] at h
    split at h
    next form =>
      rw [select_eq_of_form_zero form]
      exact isRequestOf_of_decodeOp h
    next form => exact isRequestOf_of_decodeRow form h
    next => cases h

/-- Settles O60: the six requests are evaluated. -/
theorem writtenOutRequestsDecode : Obligations.WrittenOutRequestsDecode :=
  ⟨rfl, rfl, rfl, rfl, rfl, rfl⟩

end Sys2Proof.Proofs
end
